-- ==== Sys2Proof/Word.lean ====
section
/-! DEFINITION. The word types of the block: every value is unsigned (00_scope.md R11). -/

namespace Sys2Proof

/-- A byte of a bus transaction, a colour channel or the debounce delay (R11, `u8`). -/
abbrev Byte := BitVec 8

/-- A 16-bit element: masks, durations, compare values, button words (R11, `u16`). -/
abbrev U16 := BitVec 16

/-- A 32-bit element: the millisecond clock and the timestamps (R11, R58, D7). -/
abbrev U32 := BitVec 32

end Sys2Proof
end

