-- ==== Sys2Proof/Config.lean ====
section
/-! DEFINITION. What an implementation fixes: the parameters of 00_scope.md R10 as one plain record, the values of the
OPEN ones as constants without a body, and the free value behind every draw of the spec (R12 `Draw8`). -/

namespace Sys2Proof

/-- An electrical level of a driven line (60_exceptions.md R293). -/
inductive Level where
  | low
  | high
  deriving DecidableEq, Repr

/-- The colour payload format in force (10_state.md R36). -/
inductive ColorMode where
  | packed8
  | rgb24
  deriving DecidableEq, Repr

/-- One LED's three channel bytes; channel 0 is R, 1 is G, 2 is B (10_state.md R32). -/
structure Color where
  r : Byte
  g : Byte
  b : Byte
  deriving DecidableEq, Repr

/-- The parameters a model takes as arguments (00_scope.md R10; R320 for the RESET_* values). No step changes them. -/
structure Params where
  /-- T0H_TICKS (R121, D10, OPEN). -/
  t0hTicks : U16
  /-- T1H_TICKS (R121, D10, OPEN). -/
  t1hTicks : U16
  /-- PERIOD_TICKS, what boot software passes to configurePeriod (R330, D10, OPEN). -/
  periodTicks : U16
  /-- ISR_DEADLINE in timer ticks (R340, D11, OPEN): at most T0H_TICKS, since CMP takes effect at once (R166, R340). DEDUCED,
  log 32. -/
  isrDeadline : Nat
  /-- LATCH_LOW_MIN in timer ticks (R342, D12, OPEN); `none` is the untimed model, where the gap is the host's duty. -/
  latchLowMin : Option Nat
  /-- ROW_SETTLE, in the unit in which a scan reports how long it waited (R343, D14, OPEN). -/
  rowSettle : Nat
  /-- BUS_RX_MAX (R234, D15, OPEN); `none` is "unbounded when not given". -/
  busRxMax : Option Nat
  /-- ROW_ACTIVE_LEVEL (D8, OPEN). -/
  rowActiveLevel : Level
  /-- COL_PRESSED_LEVEL (D8, OPEN). -/
  colPressedLevel : Level
  /-- RESET_COLOR (D9). -/
  resetColor : Vector Color 16
  /-- RESET_MASK (D9). -/
  resetMask : U16
  /-- RESET_DISPLAY (D9). -/
  resetDisplay : Bool
  /-- RESET_BLINK_ON_MS (D9). -/
  resetBlinkOnMs : U16
  /-- RESET_BLINK_OFF_MS (D9). -/
  resetBlinkOffMs : U16
  /-- RESET_COLOR_MODE (D9). -/
  resetColorMode : ColorMode
  /-- RESET_DEBOUNCE_MS (D9, OPEN). -/
  resetDebounceMs : Byte
  deriving DecidableEq, Repr

/-- The constraint of R121 and R330 on the pulse widths and a period: `0 < T0H < T1H < period`. -/
def Params.admitsPeriod (p : Params) (ticks : U16) : Bool :=
  0 < p.t0hTicks && p.t0hTicks < p.t1hTicks && p.t1hTicks < ticks

/-! The values the spec leaves OPEN. Nothing in Lean can evaluate them, so what is proved of them holds for every value. -/

/-- Behind T0H_TICKS; `Machine.defaultParams` brings it into the range D10 allows. -/
opaque Config.t0hSeed : Nat
/-- Behind T1H_TICKS, likewise. -/
opaque Config.t1hSeed : Nat
/-- Behind PERIOD_TICKS, likewise. -/
opaque Config.periodSeed : Nat
/-- Behind ISR_DEADLINE (D11); `Machine.defaultParams` brings it into the range R340 allows. -/
opaque Config.isrDeadlineSeed : Nat
/-- ROW_SETTLE (D14). -/
opaque Config.rowSettle : Nat
/-- Whether ROW_ACTIVE_LEVEL is high (D8). -/
opaque Config.rowActiveHigh : Bool
/-- Whether COL_PRESSED_LEVEL is high (D8). -/
opaque Config.colPressedHigh : Bool
/-- RESET_DEBOUNCE_MS (D9). -/
opaque Config.resetDebounceMs : Byte

/-- The free value of every draw (R12, R232, R260, R320, R201, R343): the n-th draw of a run reads the n-th value.
DESIGN CHOICE, log 4. -/
opaque Config.freeValue : Nat → BitVec 32

end Sys2Proof
end

