-- ==== Sys2Proof/Syntax.lean ====
section
/-! DEFINITION. The commands of the host interface: one constructor per row of spec/opcode_table.json.
A constructor holds what the opcode byte carries (30_encoding.md R113) and `pay`, the bytes `B[1..n-1]` of the write
transaction as they were received (R110). The required payload length depends on the colour mode in force when the
transaction is dispatched (R115, R124), so the bytes are judged by the machine and not here. -/

namespace Sys2Proof

/-- One write transaction, decoded (30_encoding.md R112). -/
inductive Instr where
  /-- SET_LED, 0x00-0x0F (R240): `id = B[0][3:0]`. -/
  | setLed (id : BitVec 4) (pay : List Byte)
  /-- SET_ALL, 0x10 (R241). -/
  | setAll (pay : List Byte)
  /-- SET_EACH, 0x20 (R242). -/
  | setEach (pay : List Byte)
  /-- SET_MASK, 0x30 (R243). -/
  | setMask (pay : List Byte)
  /-- DISPLAY, 0x40 and 0x41 (R244). -/
  | display (on : Bool) (pay : List Byte)
  /-- BLINK, 0x50 and 0x51 (R245). -/
  | blink (on : Bool) (pay : List Byte)
  /-- BLINK_DELAY, 0x60 and 0x61 (R246): `sel` true names the lit-phase duration (R114). -/
  | blinkDelay (sel : Bool) (pay : List Byte)
  /-- DEBOUNCE, 0x70 (R247). -/
  | debounce (pay : List Byte)
  /-- COLOR_MODE, 0x80 and 0x81 (R248): `mode` true is RGB24 (R114). -/
  | colorMode (mode : Bool) (pay : List Byte)
  /-- CLEAR, 0x90 (R249). -/
  | clear (pay : List Byte)
  /-- COMMIT, 0xA0 (R250). -/
  | commit (pay : List Byte)
  /-- QUERY, 0xB0 (R251). -/
  | query (pay : List Byte)
  /-- RESET, 0xF0 (R252). -/
  | reset (pay : List Byte)
  /-- UNRECOGNIZED, any other opcode byte (R253, R123). -/
  | unrecognized (op : Byte) (pay : List Byte)
  deriving DecidableEq, Repr

/-- The bytes `B[1..n-1]` of the transaction, as received (R110). -/
def Instr.payload : Instr → List Byte
  | .setLed _ pay | .setAll pay | .setEach pay | .setMask pay | .display _ pay | .blink _ pay
  | .blinkDelay _ pay | .debounce pay | .colorMode _ pay | .clear pay | .commit pay | .query pay
  | .reset pay | .unrecognized _ pay => pay

end Sys2Proof
end

