-- ==== Sys2Proof/WellFormed.lean ====
section
/-! DEFINITION. Which instructions are well formed. The fields of thirteen constructors admit exactly what the opcode
byte can carry (R113), so the one check is on UNRECOGNIZED: its byte is one of the 224 of 30_encoding.md R123. -/

namespace Sys2Proof

/-- The ranges of unrecognized opcode bytes, first and last of each, as 30_encoding.md R123 lists them. -/
def unrecognizedRanges : List (Nat × Nat) :=
  [(0x11, 0x1F), (0x21, 0x2F), (0x31, 0x3F), (0x42, 0x4F), (0x52, 0x5F), (0x62, 0x6F), (0x71, 0x7F),
   (0x82, 0x8F), (0x91, 0x9F), (0xA1, 0xAF), (0xB1, 0xBF), (0xC0, 0xEF), (0xF1, 0xFF)]

/-- The opcode byte lies in a range of R123. -/
def isUnrecognizedByte (op : Byte) : Bool :=
  unrecognizedRanges.any fun r => r.1 ≤ op.toNat && op.toNat ≤ r.2

/-- UNRECOGNIZED stands only for a byte of R123; every other constructor is well formed as it is. -/
def Instr.wellFormed : Instr → Bool
  | .unrecognized op _ => isUnrecognizedByte op
  | .setLed _ _ | .setAll _ | .setEach _ | .setMask _ | .display _ _ | .blink _ _ | .blinkDelay _ _
  | .debounce _ | .colorMode _ _ | .clear _ | .commit _ | .query _ | .reset _ => true

end Sys2Proof
end

