-- ==== Sys2Proof/Decode.lean ====
section
/-! DEFINITION. The opcode map (30_encoding.md R111 to R115, R123, R124), the decoder of a finished write transaction,
total on any bytes, the encoder, and the payload length. -/

namespace Sys2Proof

/-- The command families of R112, with the unrecognized bytes of R123. -/
inductive Family where
  | setLed | setAll | setEach | setMask | display | blink | blinkDelay | debounce | colorMode | clear
  | commit | query | reset | unrecognized
  deriving DecidableEq, Repr

/-- One row of the opcode map of R112. -/
structure OpRow where
  family : Family
  opcode : Byte
  mask : Byte
  deriving DecidableEq, Repr

/-- The opcode map of R112, in its order; "any other byte" is the row that is not here. -/
def opTable : List OpRow :=
  [⟨.setLed, 0x00, 0xF0⟩, ⟨.setAll, 0x10, 0xFF⟩, ⟨.setEach, 0x20, 0xFF⟩, ⟨.setMask, 0x30, 0xFF⟩,
   ⟨.display, 0x40, 0xFE⟩, ⟨.blink, 0x50, 0xFE⟩, ⟨.blinkDelay, 0x60, 0xFE⟩, ⟨.debounce, 0x70, 0xFF⟩,
   ⟨.colorMode, 0x80, 0xFE⟩, ⟨.clear, 0x90, 0xFF⟩, ⟨.commit, 0xA0, 0xFF⟩, ⟨.query, 0xB0, 0xFF⟩,
   ⟨.reset, 0xF0, 0xFF⟩]

/-- "A byte matches a row when `B[0] & mask = opcode & mask`" (R112). -/
def rowMatches (b : Byte) (row : OpRow) : Bool :=
  b &&& row.mask == row.opcode &&& row.mask

/-- The family of an opcode byte: the row it matches, else UNRECOGNIZED (R112, R123). -/
def familyOf (b : Byte) : Family :=
  match opTable.find? (rowMatches b) with
  | some row => row.family
  | none => .unrecognized

/-- `P = B[0][3:0]`, the LED index of SET_LED (R111, R113). -/
def paramNibble (b : Byte) : BitVec 4 := b.extractLsb' 0 4

/-- `B[0][0]`, the Boolean of DISPLAY, BLINK, BLINK_DELAY and COLOR_MODE (R113). -/
def paramBit (b : Byte) : Bool := b.getLsbD 0

/-- Why a byte list is no write transaction. -/
inductive DecodeError where
  /-- R110: a write transaction has n ≥ 1 bytes. -/
  | emptyTransaction
  deriving DecidableEq, Repr

/-- The command a transaction with opcode byte `op` and further bytes `pay` stands for (R231). -/
def decodeOp (op : Byte) (pay : List Byte) : Instr :=
  match familyOf op with
  | .setLed => .setLed (paramNibble op) pay
  | .setAll => .setAll pay
  | .setEach => .setEach pay
  | .setMask => .setMask pay
  | .display => .display (paramBit op) pay
  | .blink => .blink (paramBit op) pay
  | .blinkDelay => .blinkDelay (paramBit op) pay
  | .debounce => .debounce pay
  | .colorMode => .colorMode (paramBit op) pay
  | .clear => .clear pay
  | .commit => .commit pay
  | .query => .query pay
  | .reset => .reset pay
  | .unrecognized => .unrecognized op pay

/-- Decode a whole write transaction; every transaction is exactly one command (R110, R233). -/
def decode : List Byte → Except DecodeError Instr
  | [] => .error .emptyTransaction
  | op :: pay => .ok (decodeOp op pay)

/-- The family a command belongs to (R112). -/
def Instr.family : Instr → Family
  | .setLed _ _ => .setLed
  | .setAll _ => .setAll
  | .setEach _ => .setEach
  | .setMask _ => .setMask
  | .display _ _ => .display
  | .blink _ _ => .blink
  | .blinkDelay _ _ => .blinkDelay
  | .debounce _ => .debounce
  | .colorMode _ _ => .colorMode
  | .clear _ => .clear
  | .commit _ => .commit
  | .query _ => .query
  | .reset _ => .reset
  | .unrecognized _ _ => .unrecognized

/-- A Boolean as the low bit of an opcode byte (R113, R114). -/
def lowBit (b : Bool) : Byte := if b then 1 else 0

/-- The opcode byte of a command, from the opcode column of R112 and the immediates of R113. -/
def Instr.opcode : Instr → Byte
  | .setLed id _ => 0x00 ||| id.setWidth 8
  | .setAll _ => 0x10
  | .setEach _ => 0x20
  | .setMask _ => 0x30
  | .display on _ => 0x40 ||| lowBit on
  | .blink on _ => 0x50 ||| lowBit on
  | .blinkDelay sel _ => 0x60 ||| lowBit sel
  | .debounce _ => 0x70
  | .colorMode mode _ => 0x80 ||| lowBit mode
  | .clear _ => 0x90
  | .commit _ => 0xA0
  | .query _ => 0xB0
  | .reset _ => 0xF0
  | .unrecognized op _ => op

/-- The bytes of a command's write transaction: the opcode byte and the payload (R110). -/
def encode (i : Instr) : List Byte := i.opcode :: i.payload

/-- The same command with another payload: what a transaction with these bytes after the same opcode byte decodes to. -/
def Instr.withPayload (i : Instr) (pay : List Byte) : Instr :=
  match i with
  | .setLed id _ => .setLed id pay
  | .setAll _ => .setAll pay
  | .setEach _ => .setEach pay
  | .setMask _ => .setMask pay
  | .display on _ => .display on pay
  | .blink on _ => .blink on pay
  | .blinkDelay sel _ => .blinkDelay sel pay
  | .debounce _ => .debounce pay
  | .colorMode mode _ => .colorMode mode pay
  | .clear _ => .clear pay
  | .commit _ => .commit pay
  | .query _ => .query pay
  | .reset _ => .reset pay
  | .unrecognized op _ => .unrecognized op pay

/-- `m`, the colour payload size (R115). -/
def colorBytes : ColorMode → Nat
  | .packed8 => 1
  | .rgb24 => 3

/-- `L`, the required payload length (R115); `received` is `n - 1`, which counts for an unrecognized opcode only. -/
def payloadLen (f : Family) (mode : ColorMode) (received : Nat) : Nat :=
  match f with
  | .setLed | .setAll => colorBytes mode
  | .setEach => 16 * colorBytes mode
  | .setMask | .blinkDelay => 2
  | .debounce => 1
  | .display | .blink | .colorMode | .clear | .commit | .query | .reset => 0
  | .unrecognized => received

/-- The transaction an opcode-table word stands for: its bytes, first byte in the low bits, and operand bytes of zeros up
to the command's length in RGB24, the colour mode after reset (R115, R124, D9). DESIGN CHOICE, log 23. -/
def tableTransaction (nbits w : Nat) : List Byte :=
  let given := (List.range (nbits / 8)).map fun k => BitVec.ofNat 8 (w >>> (8 * k))
  match given with
  | [] => []
  | op :: pay => op :: (pay ++ List.replicate (payloadLen (familyOf op) .rgb24 pay.length - pay.length) 0)

/-- The command the decoder reads from an opcode-table word; `none` where it refuses the bytes. -/
def decodeTableWord (nbits w : Nat) : Option Instr :=
  match decode (tableTransaction nbits w) with
  | .ok i => some i
  | .error _ => none

end Sys2Proof
end

