-- ==== Sys2Proof/Machine/Defaults.lean ====
section
/-! DEFINITION. The values of the parameters in the reset state: the decided ones as 92_eei_decisions.md D9 gives them, the
OPEN ones from Config; and the draws of each type. -/

namespace Sys2Proof.Machine

/-- `Draw8()` (R12): the n-th free value as a byte. -/
def draw8 (n : Nat) : Byte := (Config.freeValue n).setWidth 8

/-- A draw of a 16-bit element (R320). -/
def draw16 (n : Nat) : U16 := (Config.freeValue n).setWidth 16

/-- A draw of a 32-bit element (R320). -/
def draw32 (n : Nat) : U32 := Config.freeValue n

/-- A draw of one bit: a ghost reading or a column sampled too early (R201, R343). -/
def drawBit (n : Nat) : Bool := (Config.freeValue n).getLsbD 0

/-- A level from a Boolean. -/
def levelOf (high : Bool) : Level := if high then .high else .low

/-- T0H_TICKS: any value from 1 to 65533, so that a T1H_TICKS and a PERIOD_TICKS above it exist (D10). -/
def openT0h : Nat := 1 + Config.t0hSeed % 65533

/-- T1H_TICKS: any value from T0H_TICKS + 1 to 65534 (D10). -/
def openT1h : Nat := openT0h + 1 + Config.t1hSeed % (65534 - openT0h)

/-- PERIOD_TICKS: any value from T1H_TICKS + 1 to 65535 (D10). -/
def openPeriod : Nat := openT1h + 1 + Config.periodSeed % (65535 - openT1h)

/-- ISR_DEADLINE: any value from 0 to T0H_TICKS, the bound of a compare register that takes effect at once (R340, D11). DEDUCED,
log 32. -/
def openIsrDeadline : Nat := Config.isrDeadlineSeed % (openT0h + 1)

/-- A black LED: the decided RESET_COLOR (D9) and what CLEAR stores (R249). -/
def black : Color := ⟨0, 0, 0⟩

/-- The parameters of the reset state: the OPEN ones unconstrained, BUS_RX_MAX and LATCH_LOW_MIN not given (R234, R342),
the RESET_* values as D9 decides them. DESIGN CHOICE, log 6, 7 and 8; DEDUCED, log 9. -/
def defaultParams : Params where
  t0hTicks := BitVec.ofNat 16 openT0h
  t1hTicks := BitVec.ofNat 16 openT1h
  periodTicks := BitVec.ofNat 16 openPeriod
  isrDeadline := openIsrDeadline
  latchLowMin := none
  rowSettle := Config.rowSettle
  busRxMax := none
  rowActiveLevel := levelOf Config.rowActiveHigh
  colPressedLevel := levelOf Config.colPressedHigh
  resetColor := Vector.replicate 16 black
  resetMask := 0xFFFF
  resetDisplay := true
  resetBlinkOnMs := 0
  resetBlinkOffMs := 0
  resetColorMode := .rgb24
  resetDebounceMs := Config.resetDebounceMs

end Sys2Proof.Machine
end

