-- ==== Sys2Proof/Machine/State.lean ====
section
/-! DEFINITION. The state of the block (10_state.md R30 to R60), the schedule and the bus queues the agents of
20_memory.md R87 work from, the faults and refusals, and the state after POWER_ON_RESET (70_reset_and_hazards.md R320).
State is plain data. -/

namespace Sys2Proof.Machine

/-- BLINK_PHASE (R35). -/
inductive Phase where
  | lit
  | unlit
  deriving DecidableEq, Repr

/-- The level of DOUT (R45). -/
inductive Pin where
  | hiz
  | low
  | high
  deriving DecidableEq, Repr

/-- The read-path slot RP (R53). -/
inductive ReadPath where
  | idle
  | buttons (v : U16)
  deriving DecidableEq, Repr

/-- A record of the event trace: a condition of R281 with its recorded info, or a model fault of R282. -/
inductive Record where
  /-- 0x01: the opcode byte. -/
  | unrecognizedOpcode (op : Byte)
  /-- 0x02: opcode, payload bytes received, bytes required. -/
  | payloadUnderrun (op : Byte) (received required : Nat)
  /-- 0x03: opcode, surplus count. -/
  | excessPayload (op : Byte) (surplus : Nat)
  /-- 0x04: the cursor. -/
  | rearmBusy (cursor : U16)
  /-- 0x05. -/
  | readIdle
  /-- 0x81. -/
  | notConfigured
  /-- 0x82. -/
  | isrDeadline
  /-- 0x83. -/
  | latchTooShort
  deriving DecidableEq, Repr

/-- What a block operation or a scan last returned to its caller (R152, R160, R203, R205, R206); no rule reads it
(DESIGN CHOICE, log 18). -/
inductive Ret where
  | none
  | color (c : Color)
  | arm (accepted : Bool)
  | changed (b : Bool)
  | button (b : Bool)
  | buttons (v : U16)
  deriving DecidableEq, Repr

/-- One row of a scan as the environment shapes it (R201): a change ENV makes to KEYS before the row is sampled, and how
long the scan waited after driving the row (R343). DESIGN CHOICE, log 16 and 26. -/
structure RowPass where
  keys : Option U16
  waited : Nat
  deriving DecidableEq, Repr

/-- The four row passes of one scan, in order (R201, R213). -/
structure ScanInput where
  row0 : RowPass
  row1 : RowPass
  row2 : RowPass
  row3 : RowPass
  deriving DecidableEq, Repr

/-- The operations MAIN can call directly (R87, 40_transmitter.md, 41_scanner.md). Ids are numbers, so that a call with one
outside 0..15 can be written and refused (D32). -/
inductive BlockOp where
  /-- R150. -/
  | setColorRgb (id : Nat) (r g b : Byte)
  /-- R151. -/
  | setColorPacked (id : Nat) (q : Byte)
  /-- R152. -/
  | getColor (id : Nat)
  /-- R153. -/
  | setMaskBit (bit : Nat) (on : Bool)
  /-- R154. -/
  | setMask (mask16 : U16)
  /-- R155. -/
  | setDisplayState (on : Bool)
  /-- R156. -/
  | setBlinkState (on : Bool) (onMs offMs : U16)
  /-- R160. -/
  | arm
  /-- R200. -/
  | setDebounceDelay (ms : Byte)
  /-- R205. -/
  | getButton (id : Nat)
  /-- R206. -/
  | getButtons
  deriving DecidableEq, Repr

/-- One step of one agent (R87), as the scheduler picks it (DESIGN CHOICE, log 1). -/
inductive Event where
  /-- HOST issues a write transaction of these bytes (R110). -/
  | hostWrite (sent : List Byte)
  /-- HOST requests a read of k bytes (R260). -/
  | hostRead (k : Nat)
  /-- ENV moves NOW forward to this value (R58). DESIGN CHOICE, log 28. -/
  | clock (t : U32)
  /-- ENV changes KEYS to this (R59). -/
  | contacts (k : U16)
  /-- MAIN decodes and executes the oldest write transaction (R231). -/
  | dispatch
  /-- MAIN scans the matrix (R202). -/
  | scan (inp : ScanInput)
  /-- MAIN runs the blink service (R170). -/
  | blinkService
  /-- MAIN calls a block operation (R87). -/
  | call (op : BlockOp)
  /-- MAIN enters an interrupt-disable region (R92, R284). DESIGN CHOICE, log 14. -/
  | disableInterrupt
  /-- MAIN leaves it. -/
  | enableInterrupt
  /-- BUSR serves the oldest read request (R260). -/
  | busRead
  /-- One tick of the timer's clock (R166, port TICK of R293). -/
  | tick
  /-- The pulse generator reaches the end of the current bit period, with no other agent's step before it (R284); the
  untimed view's form of the remaining ticks. DESIGN CHOICE, log 11. -/
  | periodEnd
  /-- TXI serves PERIOD_ELAPSED (R163). -/
  | periodElapsed
  /-- Boot software calls configurePeriod(PERIOD_TICKS) (R330 step 3, R43). -/
  | configurePeriod
  /-- The platform pulls DOUT LOW while the block does not drive it (R330, D13). DESIGN CHOICE, log 34. -/
  | pullLow
  /-- The power supply resets the block (R320). DESIGN CHOICE on the queues, log 19. -/
  | powerOnReset
  deriving DecidableEq, Repr

/-- The block, its inputs, and the schedule of its agents. -/
structure State where
  /-- The parameters (R10); no step changes them. DESIGN CHOICE, log 6. -/
  params : Params
  /-- COLOR (R32). -/
  color : Vector Color 16
  /-- MASK (R33). -/
  mask : U16
  /-- DISPLAY (R34). -/
  display : Bool
  /-- BLINK_EN (R35). -/
  blinkEn : Bool
  /-- BLINK_ON_MS (R35). -/
  blinkOnMs : U16
  /-- BLINK_OFF_MS (R35). -/
  blinkOffMs : U16
  /-- BLINK_PHASE (R35). -/
  blinkPhase : Phase
  /-- BLINK_T0 (R35). -/
  blinkT0 : U32
  /-- BLINK_REFRESH (R35). -/
  blinkRefresh : Bool
  /-- COLOR_MODE (R36). -/
  colorMode : ColorMode
  /-- TABLE (R37). -/
  table : Vector U16 384
  /-- ARMED (R38). -/
  armed : Bool
  /-- CURSOR (R41). -/
  cursor : U16
  /-- CMP (R42). -/
  cmp : U16
  /-- PERIOD (R43); `none` is UNCONFIGURED. -/
  period : Option U16
  /-- CNT (R44). -/
  cnt : U16
  /-- PIN (R45). -/
  pin : Pin
  /-- PERIOD_ELAPSED is pending (R284). -/
  irqPending : Bool
  /-- MAIN is inside an interrupt-disable region (R284, R92). DESIGN CHOICE, log 14. -/
  irqMasked : Bool
  /-- RAW (R47). -/
  raw : U16
  /-- DEB (R48). -/
  deb : U16
  /-- LAST (R49). -/
  last : Vector U32 16
  /-- DELAY (R50). -/
  delay : Byte
  /-- ROW_DRIVE (R51); `none` is NONE. -/
  rowDrive : Option (Fin 4)
  /-- RP (R53). -/
  rp : ReadPath
  /-- NOW (R58). -/
  now : U32
  /-- KEYS (R59); bit 4·row + col is the contact at (row, col). -/
  keys : U16
  /-- TRACE (R60), oldest record first. -/
  trace : List Record
  /-- Write transactions delivered by the bus and not yet decoded, oldest first (R87, R234). DESIGN CHOICE, log 2. -/
  rx : List (List Byte)
  /-- Read requests not yet served, oldest first, each with its byte count (R87). DESIGN CHOICE, log 2. -/
  reads : List Nat
  /-- The response bytes of the last bus read (R260, port BUS of R293). DESIGN CHOICE, log 18. -/
  busOut : List Byte
  /-- What the last operation that returns a value returned. -/
  ret : Ret
  /-- The scheduler's coming picks, next first (R87, U26). DESIGN CHOICE, log 1. -/
  agenda : List Event
  /-- The model's own field: how many draws were taken (R12). DESIGN CHOICE, log 4. -/
  draws : Nat
  /-- The model's own field: which LAST entries a scan has written (R64 invariant 6). DESIGN CHOICE, log 18. -/
  lastWritten : U16
  /-- The model's own field: timer ticks since the last completion, `none` before the first after a power-on reset (R342).
  DESIGN CHOICE, log 8 and 33. -/
  gap : Option Nat
  deriving DecidableEq, Repr

/-- The model faults of R282. Each carries TRACE with the fault's record at its end. A fault ends the run, so nothing can be
proved of what the chip does next: safe. DEDUCED, log 10. -/
inductive Fault where
  /-- Raised by arm while PERIOD is UNCONFIGURED (R160, R331). Safe. -/
  | notConfigured (trace : List Record)
  /-- Raised by PERIOD_ELAPSED served after ISR_DEADLINE, and by a period end while the last one is still pending
  (R340, R287). Safe. -/
  | isrDeadline (trace : List Record)
  /-- Raised by an accepted arm less than LATCH_LOW_MIN after the last completion, where that parameter is given (R342).
  Safe. -/
  | latchTooShort (trace : List Record)
  deriving DecidableEq, Repr

/-- Why the model has no step. Each is safe: the run stops where the spec says there is no step. DEDUCED, log 21; and log 22
for the two that no run reaches. -/
inductive Refusal where
  /-- Raised by `exec` for a command that has no meaning yet. Safe. -/
  | notModelled (mnemonic : String)
  /-- Raised where a write transaction has no byte (R110: n ≥ 1). Safe. -/
  | emptyTransaction
  /-- Raised by DISPATCH with no transaction delivered: MAIN has nothing to decode (R87). Safe. -/
  | nothingReceived
  /-- Raised by BUSR with no read requested (R87). Safe. -/
  | nothingRequested
  /-- Raised by a direct call with an id or bit outside 0..15 (D32, U21). Safe. -/
  | idOutOfRange (id : Nat)
  /-- Raised by PERIOD_ELAPSED while not ARMED, not pending, or masked (R163, R284). Safe. -/
  | periodElapsedNotEnabled
  /-- Raised by the end of a bit period while not ARMED: the timer is stopped (R38, R290). Safe. -/
  | timerStopped
  /-- Raised by a tick or period end while ARMED with PERIOD UNCONFIGURED, which no run reaches (R160). Safe. -/
  | periodUnconfigured
  /-- Raised by PERIOD_ELAPSED with CURSOR above 383 while ARMED, which no run reaches (R64 invariant 2, R12). Safe. -/
  | cursorOutOfRange (cursor : U16)
  /-- Raised by configurePeriod while ARMED (R332, U17). Safe. -/
  | configureWhileArmed
  /-- Raised by configurePeriod while PERIOD holds a value: it is set once, at boot (R43, R292, R332). Safe. DEDUCED, log 20. -/
  | configuredAlready
  /-- Raised by configurePeriod with a period not above T1H_TICKS (R330 step 3). Safe. -/
  | periodOutOfRange (ticks : U16)
  deriving DecidableEq, Repr

/-- The outcome of one step of this machine. -/
abbrev Out := Host.Outcome State Fault Refusal

/-- How many draws POWER_ON_RESET takes: TABLE, CURSOR, CMP, CNT, BLINK_T0, NOW and LAST (R320). -/
def powerOnDraws : Nat := 405

/-- POWER_ON_RESET (R320): every element at its reset value, the unspecified ones drawn from the n-th free value on. The
parameters, the scheduler's picks and the contacts are no elements of the block; the bus queues hold nothing. The pin is HIZ; a platform
that pulls the line LOW at boot does so by the event `pullLow` (R330). A completion before the reset does not count for
LATCH_LOW_MIN after it: `gap` starts at none (R342). DESIGN CHOICE, log 5 for the free values, log 33 for `gap`, log 34 for the pull,
and log 19 for the rest. -/
def State.powerOn (params : Params) (agenda : List Event) (keys : U16) (n : Nat) : State where
  params := params
  color := params.resetColor
  mask := params.resetMask
  display := params.resetDisplay
  blinkEn := false
  blinkOnMs := params.resetBlinkOnMs
  blinkOffMs := params.resetBlinkOffMs
  blinkPhase := .lit
  blinkT0 := draw32 (n + 387)
  blinkRefresh := false
  colorMode := params.resetColorMode
  table := Vector.ofFn fun p => draw16 (n + p.val)
  armed := false
  cursor := draw16 (n + 384)
  cmp := draw16 (n + 385)
  period := none
  cnt := draw16 (n + 386)
  pin := .hiz
  irqPending := false
  irqMasked := false
  raw := 0
  deb := 0
  last := Vector.ofFn fun id => draw32 (n + 389 + id.val)
  delay := params.resetDebounceMs
  rowDrive := none
  rp := .idle
  now := draw32 (n + 388)
  keys := keys
  trace := []
  rx := []
  reads := []
  busOut := []
  ret := .none
  agenda := agenda
  draws := n + powerOnDraws
  lastWritten := 0
  gap := none

/-- The machine right after power-on (R320, R321), with nothing scheduled; the contacts are an input, drawn too. DESIGN CHOICE,
log 1, 5 and 31. -/
def State.reset : State := State.powerOn defaultParams [] (draw16 0) 1

end Sys2Proof.Machine
end

