-- ==== Sys2Proof/Machine/Ops.lean ====
section
/-! DEFINITION. The named operations over the state: the trace, the colour store, the pulse-generator interface
(60_exceptions.md R292), the interrupt's signal, entry and return (R284, R286, R287), the wire order (30_encoding.md R121,
R122), bit fields and elapsed time. -/

namespace Sys2Proof.Machine

/-- `raise Cond(info)`: append a record to TRACE (R12, R60). -/
def raise (r : Record) (s : State) : State := { s with trace := s.trace ++ [r] }

/-- The fault with these records after its own: what a transaction still records once its command has faulted (R283). -/
def faultThenRecords (r : Fault) (more : List Record) : Fault :=
  match r with
  | .notConfigured t => .notConfigured (t ++ more)
  | .isrDeadline t => .isrDeadline (t ++ more)
  | .latchTooShort t => .latchTooShort (t ++ more)

/-- Records appended to TRACE at the end of a step, whether it answers a state or a model fault (R283). -/
def thenRecord (o : Out) (more : List Record) : Out :=
  match o with
  | .next s => .next { s with trace := s.trace ++ more }
  | .fault r => .fault (faultThenRecords r more)
  | .refused r => .refused r

/-- Continue a step that has answered a next state. -/
def thenState (o : Out) (f : State → State) : Out :=
  match o with
  | .next s => .next (f s)
  | .fault r => .fault r
  | .refused r => .refused r

/-- Run `f` for an id in 0..15; refuse any other (D32, U21). -/
def withId (id : Nat) (f : BitVec 4 → Out) : Out :=
  if id < 16 then f (BitVec.ofNat 4 id) else .refused (.idOutOfRange id)

/-! ### Arrays and bits -/

/-- `S.COLOR[id]` (R152). -/
def colorOf (id : BitVec 4) (s : State) : Color := s.color[id.toNat]'id.isLt

/-- `S.COLOR[id] <- c`, all three channels at once (R85). -/
def storeColor (id : BitVec 4) (c : Color) (s : State) : State :=
  { s with color := s.color.set id.toNat c id.isLt }

/-- `S.COLOR[id][c]` of one LED: channel 0 is R, 1 is G, 2 is B (R32). -/
def channelOf (c : Color) (ch : Fin 3) : Byte :=
  match ch with
  | 0 => c.r
  | 1 => c.g
  | 2 => c.b

/-- `v[bit] <- on`, the other bits unchanged (R153). -/
def writeBit (v : U16) (bit : BitVec 4) (on : Bool) : U16 :=
  BitVec.ofFnLE fun i => if i.val = bit.toNat then on else v.getLsbD i.val

/-- `(hi8 << 8) | lo8` (R11, R119). -/
def be16 (hi lo : Byte) : U16 := hi ++ lo

/-- `v[15:8]` (R120). -/
def highByte (v : U16) : Byte := v.extractLsb' 8 8

/-- `v[7:0]` (R120). -/
def lowByte (v : U16) : Byte := v.extractLsb' 0 8

/-- `(now -_32 since) >= zext_32(d)`: every elapsed-time test of the block (R211). -/
def elapsed {w : Nat} (now since : U32) (d : BitVec w) : Bool := d.setWidth 32 ≤ now - since

/-! ### Wire order and the timing table -/

/-- The LED a table position carries, LED 0 first (R122). -/
def led (p : Fin 384) : Fin 16 := ⟨p.val / 24, by omega⟩

/-- The channel slot of a table position (R122). -/
def slot (p : Fin 384) : Fin 3 := ⟨p.val / 8 % 3, by omega⟩

/-- CHANNEL_ORDER = (1, 0, 2): G, R, B (R122, D3). -/
def channelOrder (k : Fin 3) : Fin 3 :=
  match k with
  | 0 => 1
  | 1 => 0
  | 2 => 2

/-- The channel a table position carries (R122). -/
def chan (p : Fin 384) : Fin 3 := channelOrder (slot p)

/-- The bit of the channel a table position carries, most significant first (R122). -/
def bitno (p : Fin 384) : Nat := 7 - p.val % 8

/-- The compare value of one bit: long pulse for 1, short pulse for 0 (R121). -/
def code (s : State) (bit : Bool) : U16 := if bit then s.params.t1hTicks else s.params.t0hTicks

/-! ### The pulse-generator interface and the interrupt -/

/-- `loadNextPulseWidth(w)` (R292). -/
def loadNextPulseWidth (w : U16) (s : State) : State := { s with cmp := w }

/-- `configurePeriod(ticks)` (R292, R330 step 3): PERIOD is set once, at boot (R43). Refused while ARMED (R332), while PERIOD holds a
value, and for a period the parameters do not admit. DEDUCED, log 20. -/
def configurePeriod (ticks : U16) (s : State) : Out :=
  if s.armed then .refused .configureWhileArmed
  else if s.period ≠ none then .refused .configuredAlready
  else if s.params.admitsPeriod ticks then .next { s with period := some ticks }
  else .refused (.periodOutOfRange ticks)

/-- The end of a bit period signals PERIOD_ELAPSED: it is pending from here, and a new period begins at tick 0 (R166, R284).
A period that ends while the last one is still pending is lost: IsrDeadline (R287). DEDUCED, log 13. -/
def signalPeriodElapsed (s : State) : Out :=
  if s.irqPending then .fault (.isrDeadline (raise .isrDeadline s).trace)
  else .next { s with cnt := 0, irqPending := true }

/-- PERIOD_ELAPSED can be taken: enabled while ARMED, pending, and outside an interrupt-disable region (R284). -/
def periodElapsedEnabled (s : State) : Bool := s.armed && s.irqPending && !s.irqMasked

/-- Interrupt entry: it saves no block state, and running the step clears the pending signal (R284, R286). -/
def enterPeriodElapsed (s : State) : State := { s with irqPending := false }

/-- Interrupt return: it restores no block state (R287). -/
def returnFromPeriodElapsed (s : State) : State := s

end Sys2Proof.Machine
end

