-- ==== Sys2Proof/Machine/Operands.lean ====
section
/-! DEFINITION. The operand forms: payload bytes with underrun and surplus (42_dispatcher.md R231 to R234), the colour
payloads (30_encoding.md R116 to R118) and the 16-bit payload (R119). -/

namespace Sys2Proof.Machine

/-- `BusByte(1) .. BusByte(L)` (R232): the bytes received, and a draw for each one missing (log 4). -/
def busBytes (L : Nat) (pay : List Byte) (s : State) : List Byte :=
  pay.take L ++ (List.range (L - pay.length)).map fun j => draw8 (s.draws + j)

/-- Reading a payload of `L` bytes: an underrun is recorded once and takes a draw for each missing byte (R232). -/
def readPayload (op : Byte) (L : Nat) (pay : List Byte) (s : State) : State :=
  if pay.length < L then
    raise (.payloadUnderrun op pay.length L) { s with draws := s.draws + (L - pay.length) }
  else s

/-- Bytes beyond `L` are discarded and recorded (R233). -/
def excessRecords (op : Byte) (L : Nat) (pay : List Byte) : List Record :=
  if L < pay.length then [.excessPayload op (pay.length - L)] else []

/-- `L(B[0], S.COLOR_MODE)` for a command, the mode read once (R115, R231). DEDUCED, log 3. -/
def requiredLen (i : Instr) (s : State) : Nat := payloadLen i.family s.colorMode i.payload.length

/-- DISPATCH of one command (R231): read the payload, execute the family's rule on its bytes, drop the surplus. The
surplus is recorded last, also after a model fault of the command (R283). -/
def runCommand (i : Instr) (effect : List Byte → State → Out) (s : State) : Out :=
  let L := requiredLen i s
  thenRecord (effect (busBytes L i.payload s) (readPayload i.opcode L i.payload s))
    (excessRecords i.opcode L i.payload)

/-- `BUS_RX_MAX`: the bus delivers at most that many bytes of a transaction (R234). DESIGN CHOICE, log 7. -/
def receive (sent : List Byte) (s : State) : List Byte :=
  match s.params.busRxMax with
  | none => sent
  | some m => sent.take m

/-- Byte `k` of a payload of the length its command requires. -/
def byteAt (bytes : List Byte) (k : Nat) : Byte := bytes.getD k 0

/-- `expand(c2, I) = (c2 * 85 * (I + 1)) / 4` on exact naturals (R118). -/
def expand (c2 i : BitVec 2) : Byte := BitVec.ofNat 8 (c2.toNat * 85 * (i.toNat + 1) / 4)

/-- `unpack(q)`: the packed colour byte, I in 7:6, R2 in 5:4, G2 in 3:2, B2 in 1:0 (R117, R118). -/
def unpack (q : Byte) : Color :=
  let i := q.extractLsb' 6 2
  ⟨expand (q.extractLsb' 4 2) i, expand (q.extractLsb' 2 2) i, expand (q.extractLsb' 0 2) i⟩

/-- The k-th colour group of a payload: three bytes r, g, b in RGB24 (R116), one packed byte in PACKED8 (R117). -/
def colorGroup (mode : ColorMode) (bytes : List Byte) (k : Nat) : Color :=
  match mode with
  | .rgb24 => ⟨byteAt bytes (3 * k), byteAt bytes (3 * k + 1), byteAt bytes (3 * k + 2)⟩
  | .packed8 => unpack (byteAt bytes k)

/-- The 16-bit payload `(BusByte(1) << 8) | BusByte(2)` (R119). -/
def payload16 (bytes : List Byte) : U16 := be16 (byteAt bytes 0) (byteAt bytes 1)

end Sys2Proof.Machine
end

