-- ==== Sys2Proof/Machine/Transmitter.lean ====
section
/-! DEFINITION. The transmitter's operations (40_transmitter.md): the setters, arm, PERIOD_ELAPSED, the pulse generator and the
blink service. -/

namespace Sys2Proof.Machine

/-! ### Setters (R150 to R156): no effect on TABLE or PIN -/

/-- setColor(id, r, g, b) (R150). -/
def setColorRgb (id : BitVec 4) (r g b : Byte) (s : State) : State := storeColor id ⟨r, g, b⟩ s

/-- setColor(id, q) (R151). -/
def setColorPacked (id : BitVec 4) (q : Byte) (s : State) : State := storeColor id (unpack q) s

/-- setMask(bit, on) (R153). -/
def setMaskBit (bit : BitVec 4) (on : Bool) (s : State) : State := { s with mask := writeBit s.mask bit on }

/-- setMask(mask16) (R154). -/
def setMask16 (m : U16) (s : State) : State := { s with mask := m }

/-- setDisplayState(on) (R155). -/
def setDisplayState (on : Bool) (s : State) : State := { s with display := on }

/-- setBlinkState(on, onMs, offMs) (R156). -/
def setBlinkState (on : Bool) (onMs offMs : U16) (s : State) : State :=
  { s with
    blinkOnMs := onMs
    blinkOffMs := offMs
    blinkPhase := .lit
    blinkRefresh := false
    blinkT0 := if on then s.now else s.blinkT0
    blinkEn := on }

/-! ### Arm (R157 to R160) -/

/-- The lit predicate of LED i (R157). -/
def lit (s : State) (i : Fin 16) : Bool :=
  s.display && s.mask.getLsbD i.val && (!s.blinkEn || s.blinkPhase == .lit)

/-- The bit a table position carries at an arm (R158). -/
def bitval (s : State) (p : Fin 384) : Bool :=
  lit s (led p) && (channelOf s.color[led p] (chan p)).getLsbD (bitno p)

/-- W, the word one transmission sends when armed in this state (R165). -/
def frameWord (s : State) : Vector Bool 384 := Vector.ofFn (bitval s)

/-- The timing table an arm builds (R121, R160). -/
def buildTable (s : State) : Vector U16 384 := Vector.ofFn fun p => code s (bitval s p)

/-- "enable the output pin" (R160, R45). -/
def enablePin (p : Pin) : Pin := if p = .hiz then .low else p

/-- The platform pulls DOUT LOW: a line that is not driven becomes LOW, a driven one keeps its level (R330, D13). DESIGN CHOICE,
log 34. -/
def pullLow (s : State) : State := { s with pin := enablePin s.pin }

/-- An accepted arm (R160): the table, the cursor, bit 0's compare value, then the timer. -/
def startTransmission (s : State) : State :=
  loadNextPulseWidth (buildTable s)[0]
    { s with
      table := buildTable s
      cursor := 0
      cnt := 0
      pin := enablePin s.pin
      armed := true }

/-- The gap since the last completion is below LATCH_LOW_MIN, where that parameter is given (R342). DESIGN CHOICE, log 8. -/
def latchTooShort (s : State) : Bool :=
  match s.params.latchLowMin, s.gap with
  | some least, some ticks => ticks < least
  | _, _ => false

/-- arm() (R160): NotConfigured first, then the re-arm while busy that is ignored (D4, DEDUCED, log 29), then the snapshot. -/
def arm (s : State) : Out :=
  if s.period = none then .fault (.notConfigured (raise .notConfigured s).trace)
  else if s.armed then .next (raise (.rearmBusy s.cursor) s)
  else if latchTooShort s then .fault (.latchTooShort (raise .latchTooShort s).trace)
  else .next (startTransmission s)

/-! ### The bit-period interrupt (R163) and the pulse generator (R166) -/

/-- The completing PERIOD_ELAPSED: disable the timer and force the pin low (R163); the gap is counted from here (R342). -/
def completeTransmission (s : State) : State := { s with armed := false, pin := .low, gap := some 0 }

/-- The body of PERIOD_ELAPSED (R163): increment the cursor; at 384 complete, else load the next compare value. -/
def advanceCursor (s : State) : Out :=
  let s1 := { s with cursor := s.cursor + 1 }
  if s1.cursor = 384 then .next (completeTransmission s1)
  else if h : s.cursor.toNat + 1 < 384 then .next (loadNextPulseWidth s.table[s.cursor.toNat + 1] s1)
  else .refused (.cursorOutOfRange s.cursor)

/-- PERIOD_ELAPSED, one TXI step (R163): entry, the deadline of R340 judged by the ticks gone in the new period, the body,
return. DEDUCED, log 13. -/
def periodElapsed (s : State) : Out :=
  if !periodElapsedEnabled s then .refused .periodElapsedNotEnabled
  else if s.params.isrDeadline < s.cnt.toNat then .fault (.isrDeadline (raise .isrDeadline s).trace)
  else thenState (advanceCursor (enterPeriodElapsed s)) returnFromPeriodElapsed

/-- The 384th period has ended and its interrupt is still pending: no 385th rising edge may follow (R166, R345). DEDUCED,
log 12. -/
def completionPending (s : State) : Bool := s.irqPending && s.cursor == 383

/-- The level of DOUT in the tick at position `c` of the period: HIGH for the first CMP ticks, then LOW (R45, R166). CMP takes effect
at once (R340). DEDUCED, log 32. -/
def tickLevel (s : State) (c : U16) : Pin :=
  if completionPending s then .low else if c < s.cmp then .high else .low

/-- One timer tick (R166); while not ARMED the timer is stopped, and the tick only lengthens the gap (R342). -/
def timerTick (s : State) : Out :=
  if !s.armed then .next { s with gap := s.gap.map (· + 1) }
  else
    match s.period with
    | none => .refused .periodUnconfigured
    | some p =>
      let s1 := { s with pin := tickLevel s s.cnt, cnt := s.cnt + 1 }
      if s1.cnt = p then signalPeriodElapsed s1 else .next s1

/-- The rest of the current bit period in one step: the line ends at the level of the period's last tick and PERIOD_ELAPSED
is signalled (R284, R166). DESIGN CHOICE, log 11. -/
def periodEnd (s : State) : Out :=
  if !s.armed then .refused .timerStopped
  else
    match s.period with
    | none => .refused .periodUnconfigured
    | some p => signalPeriodElapsed { s with pin := tickLevel s (p - 1) }

/-! ### The blink service (R170) -/

/-- The other blink phase. -/
def otherPhase : Phase → Phase
  | .lit => .unlit
  | .unlit => .lit

/-- The duration of the current phase (R170). -/
def phaseMs (s : State) : U16 := if s.blinkPhase = .lit then s.blinkOnMs else s.blinkOffMs

/-- The phase half of BLINK_SERVICE: at most one change per step (R170). -/
def blinkPhaseStep (s : State) : State :=
  if s.blinkEn && elapsed s.now s.blinkT0 (phaseMs s) then
    { s with blinkPhase := otherPhase s.blinkPhase, blinkT0 := s.now, blinkRefresh := true }
  else s

/-- BLINK_SERVICE (R170): the phase, then a waiting refresh once the transmitter is idle. -/
def blinkService (s : State) : Out :=
  let s1 := blinkPhaseStep s
  if s1.blinkRefresh && !s1.armed then thenState (arm s1) fun t => { t with blinkRefresh := false }
  else .next s1

end Sys2Proof.Machine
end

