-- ==== Sys2Proof/Machine/ColorCommands.lean ====
section
/-! DEFINITION. The meanings of the colour commands: SET_LED, SET_ALL, SET_EACH, COLOR_MODE, CLEAR (42_dispatcher.md R240, R241,
R242, R248, R249). -/

namespace Sys2Proof.Machine

/-- SET_LED's effect on its payload: setColor in the mode in force (R240). -/
def setLedEffect (id : BitVec 4) (bytes : List Byte) (s : State) : State :=
  match s.colorMode with
  | .rgb24 => setColorRgb id (byteAt bytes 0) (byteAt bytes 1) (byteAt bytes 2) s
  | .packed8 => setColorPacked id (byteAt bytes 0) s

/-- SET_LED (R240). -/
def execSetLed (id : BitVec 4) (pay : List Byte) (s : State) : Out :=
  runCommand (.setLed id pay) (fun bytes t => .next (setLedEffect id bytes t)) s

/-- SET_ALL (R241): the payload is read once and goes to all 16 LEDs. -/
def execSetAll (pay : List Byte) (s : State) : Out :=
  runCommand (.setAll pay)
    (fun bytes t => .next { t with color := Vector.replicate 16 (colorGroup t.colorMode bytes 0) }) s

/-- SET_EACH (R242): the k-th group goes to LED k. -/
def execSetEach (pay : List Byte) (s : State) : Out :=
  runCommand (.setEach pay)
    (fun bytes t => .next { t with color := Vector.ofFn fun k => colorGroup t.colorMode bytes k.val }) s

/-- COLOR_MODE (R248); 1 is RGB24 (R114). -/
def execColorMode (mode : Bool) (pay : List Byte) (s : State) : Out :=
  runCommand (.colorMode mode pay)
    (fun _ t => .next { t with colorMode := if mode then .rgb24 else .packed8 }) s

/-- CLEAR (R249). -/
def execClear (pay : List Byte) (s : State) : Out :=
  runCommand (.clear pay) (fun _ t => .next { t with color := Vector.replicate 16 black }) s

end Sys2Proof.Machine
end

