-- ==== Sys2Proof/Machine/Scanner.lean ====
section
/-! DEFINITION. The button matrix scanner and debouncer (41_scanner.md). -/

namespace Sys2Proof.Machine

/-- setDebounceDelay(ms) (R200). -/
def setDebounceDelay (ms : Byte) (s : State) : State := { s with delay := ms }

/-- getButton(id) (R205). -/
def buttonOf (id : BitVec 4) (s : State) : Bool := s.deb.getLsbD id.toNat

/-! ### Matrix sampling (R201) -/

/-- The contact at (row, col) is closed (R59); id = 4·row + col (D8). -/
def closedAt (keys : U16) (r c : Fin 4) : Bool := keys.getLsbD (4 * r.val + c.val)

/-- The three other corners of some rectangle with corner (r, c) are closed: the position may ghost (R201). DEDUCED, log 17. -/
def ghostAt (keys : U16) (r c : Fin 4) : Bool :=
  (List.finRange 4).any fun r' => (List.finRange 4).any fun c' =>
    r' ≠ r && c' ≠ c && closedAt keys r c' && closedAt keys r' c && closedAt keys r' c'

/-- The level row r is driven to, `none` for high impedance (port ROW of R293). -/
def rowPort (s : State) (r : Fin 4) : Option Level :=
  if s.rowDrive = some r then some s.params.rowActiveLevel else none

/-- The level that is not COL_PRESSED_LEVEL. -/
def otherLevel : Level → Level
  | .low => .high
  | .high => .low

/-- What column c reads: COL_PRESSED_LEVEL while a contact conducts from row r driven active, else the other level
(port COL of R293, R201, D8). -/
def columnLevel (s : State) (conducts : Bool) (r : Fin 4) : Level :=
  if conducts && rowPort s r == some s.params.rowActiveLevel then s.params.colPressedLevel
  else otherLevel s.params.colPressedLevel

/-- `sample(r, c)`: 1 when column c reads COL_PRESSED_LEVEL. A column sampled before ROW_SETTLE is a draw (R343), and so is an
open contact that may ghost (R201); `n` numbers the draw of this position. DESIGN CHOICE, log 4, 16 and 26. -/
def sampleAt (s : State) (settled : Bool) (n : Nat) (r c : Fin 4) : Bool :=
  if !settled then drawBit n
  else if !closedAt s.keys r c && ghostAt s.keys r c then drawBit n
  else columnLevel s (closedAt s.keys r c) r == s.params.colPressedLevel

/-- ENV's change of KEYS before a row is sampled (R201). -/
def envKeys (k : Option U16) (s : State) : State :=
  match k with
  | none => s
  | some v => { s with keys := v }

/-- Drive row r to ROW_ACTIVE_LEVEL (R201). -/
def driveRow (r : Fin 4) (s : State) : State := { s with rowDrive := some r }

/-- Release the driven row to high impedance (R201). -/
def releaseRow (s : State) : State := { s with rowDrive := none }

/-- One row of the sampling: the state with the row released again, and the four bits read, column 0 lowest. -/
def sampleRow (r : Fin 4) (p : RowPass) (s : State) : State × BitVec 4 :=
  let s1 := driveRow r (envKeys p.keys s)
  let bits := BitVec.ofFnLE fun c => sampleAt s1 (s1.params.rowSettle ≤ p.waited) (s.draws + 4 * r.val + c.val) r c
  (releaseRow s1, bits)

/-- The whole matrix (R201): four rows in turn, bit 4·r + c of the result; every matrix line idle at the end. Sixteen draw
numbers are set aside, one per position (DESIGN CHOICE, log 4). -/
def sampleMatrix (inp : ScanInput) (s : State) : State × U16 :=
  let (s0, b0) := sampleRow 0 inp.row0 s
  let (s1, b1) := sampleRow 1 inp.row1 s0
  let (s2, b2) := sampleRow 2 inp.row2 s1
  let (s3, b3) := sampleRow 3 inp.row3 s2
  ({ s3 with draws := s3.draws + 16 }, b3 ++ b2 ++ b1 ++ b0)

/-! ### Debouncing (R202) -/

/-- `S.LAST[id]` after a scan at `t`: a bit that differs from its previous raw sample is stamped (R202). -/
def newLast (t : U32) (raw : U16) (s : State) : Vector U32 16 :=
  Vector.ofFn fun id => if raw.getLsbD id.val ≠ s.raw.getLsbD id.val then t else s.last[id]

/-- The debounced word after a scan at `t`: a raw bit that differs from the published one commits once its stamp is at
least DELAY old (R202, C1). -/
def newDeb (t : U32) (raw : U16) (s : State) : U16 :=
  BitVec.ofFnLE fun id =>
    if raw.getLsbD id.val ≠ s.deb.getLsbD id.val && elapsed t (newLast t raw s)[id] s.delay then raw.getLsbD id.val
    else s.deb.getLsbD id.val

/-- The debounce half of a scan: stamps, RAW, and one atomic publish of DEB; it returns `changed` (R202, R203). -/
def debounce (t : U32) (raw : U16) (s : State) : State :=
  { s with
    last := newLast t raw s
    lastWritten := s.lastWritten ||| (raw ^^^ s.raw)
    raw := raw
    deb := newDeb t raw s
    ret := .changed (newDeb t raw s != s.deb) }

/-- scan() (R202): one timestamp before sampling (D27), then the matrix, then the debouncer. -/
def scan (inp : ScanInput) (s : State) : State :=
  let (s1, raw) := sampleMatrix inp s
  debounce s.now raw s1

end Sys2Proof.Machine
end

