-- ==== Sys2Proof/Machine/ConfigCommands.lean ====
section
/-! DEFINITION. The meanings of the configuration commands: SET_MASK, DISPLAY, BLINK, BLINK_DELAY, DEBOUNCE (42_dispatcher.md R243
to R247). -/

namespace Sys2Proof.Machine

/-- SET_MASK (R243). -/
def execSetMask (pay : List Byte) (s : State) : Out :=
  runCommand (.setMask pay) (fun bytes t => .next (setMask16 (payload16 bytes) t)) s

/-- DISPLAY (R244). -/
def execDisplay (on : Bool) (pay : List Byte) (s : State) : Out :=
  runCommand (.display on pay) (fun _ t => .next (setDisplayState on t)) s

/-- BLINK (R245): the stored durations are kept. -/
def execBlink (on : Bool) (pay : List Byte) (s : State) : Out :=
  runCommand (.blink on pay) (fun _ t => .next (setBlinkState on t.blinkOnMs t.blinkOffMs t)) s

/-- BLINK_DELAY's effect: `sel` names the duration written (R246, R114). -/
def blinkDelayEffect (sel : Bool) (v : U16) (s : State) : State :=
  if sel then { s with blinkOnMs := v } else { s with blinkOffMs := v }

/-- BLINK_DELAY (R246). -/
def execBlinkDelay (sel : Bool) (pay : List Byte) (s : State) : Out :=
  runCommand (.blinkDelay sel pay) (fun bytes t => .next (blinkDelayEffect sel (payload16 bytes) t)) s

/-- DEBOUNCE (R247). -/
def execDebounce (pay : List Byte) (s : State) : Out :=
  runCommand (.debounce pay) (fun bytes t => .next (setDebounceDelay (byteAt bytes 0) t)) s

end Sys2Proof.Machine
end

