-- ==== Sys2Proof/Machine/ReadPath.lean ====
section
/-! DEFINITION. The read path (42_dispatcher.md R251, R260). -/

namespace Sys2Proof.Machine

/-- Capture the buttons for the next read (R251). -/
def captureButtons (s : State) : State := { s with rp := .buttons s.deb }

/-- `count` bytes nobody defines: draws (R260, U3, U11; log 4). -/
def drawBytes (s : State) (count : Nat) : List Byte := (List.range count).map fun j => draw8 (s.draws + j)

/-- READ(k) (R260): a pending report is sent high byte first and consumed whatever k is; an idle read answers draws. -/
def serveRead (k : Nat) (s : State) : State :=
  match s.rp with
  | .buttons v =>
    { s with
      busOut := ([highByte v, lowByte v] ++ drawBytes s (k - 2)).take k
      draws := s.draws + (k - 2)
      rp := .idle }
  | .idle => raise .readIdle { s with busOut := drawBytes s k, draws := s.draws + k }

end Sys2Proof.Machine
end

