-- ==== Sys2Proof/Machine/SystemCommands.lean ====
section
/-! DEFINITION. The meanings of COMMIT, QUERY, RESET and UNRECOGNIZED (42_dispatcher.md R250 to R253). -/

namespace Sys2Proof.Machine

/-- COMMIT (R250): arm, its result discarded. -/
def execCommit (pay : List Byte) (s : State) : Out :=
  runCommand (.commit pay) (fun _ t => arm t) s

/-- QUERY (R251). -/
def execQuery (pay : List Byte) (s : State) : Out :=
  runCommand (.query pay) (fun _ t => .next (captureButtons t)) s

/-- RESET's effect: the configuration subset of R252 and R322; the engine and the scanner's measured state are kept.
DEDUCED for the pending interrupt and its mask, log 30. -/
def resetConfiguration (s : State) : State :=
  { s with
    color := s.params.resetColor
    mask := s.params.resetMask
    display := s.params.resetDisplay
    blinkEn := false
    blinkOnMs := s.params.resetBlinkOnMs
    blinkOffMs := s.params.resetBlinkOffMs
    blinkPhase := .lit
    blinkRefresh := false
    colorMode := s.params.resetColorMode
    delay := s.params.resetDebounceMs
    rp := .idle }

/-- RESET (R252). -/
def execReset (pay : List Byte) (s : State) : Out :=
  runCommand (.reset pay) (fun _ t => .next (resetConfiguration t)) s

/-- UNRECOGNIZED (R253): a no-op that records its opcode byte; the payload is drained. -/
def execUnrecognized (op : Byte) (pay : List Byte) (s : State) : Out :=
  runCommand (.unrecognized op pay) (fun _ t => .next (raise (.unrecognizedOpcode op) t)) s

end Sys2Proof.Machine
end

