-- ==== Sys2Proof/Machine/Dispatch.lean ====
section
/-! DEFINITION. One arm per command: the dispatcher's choice of the family's rule (42_dispatcher.md R231). -/

namespace Sys2Proof.Machine

def exec (i : Instr) (s : State) : Host.Outcome State Fault Refusal :=
  match i with
  | .setLed id pay => Sys2Proof.Machine.execSetLed id pay s
  | .setAll pay => Sys2Proof.Machine.execSetAll pay s
  | .setEach pay => Sys2Proof.Machine.execSetEach pay s
  | .setMask pay => Sys2Proof.Machine.execSetMask pay s
  | .display on pay => Sys2Proof.Machine.execDisplay on pay s
  | .blink on pay => Sys2Proof.Machine.execBlink on pay s
  | .blinkDelay sel pay => Sys2Proof.Machine.execBlinkDelay sel pay s
  | .debounce pay => Sys2Proof.Machine.execDebounce pay s
  | .colorMode mode pay => Sys2Proof.Machine.execColorMode mode pay s
  | .clear pay => Sys2Proof.Machine.execClear pay s
  | .commit pay => Sys2Proof.Machine.execCommit pay s
  | .query pay => Sys2Proof.Machine.execQuery pay s
  | .reset pay => Sys2Proof.Machine.execReset pay s
  | .unrecognized op pay => Sys2Proof.Machine.execUnrecognized op pay s

end Sys2Proof.Machine
end

