-- ==== Sys2Proof/Machine/Agents.lean ====
section
/-! DEFINITION. The agents' steps (20_memory.md R87): the host's transactions, the environment, MAIN's direct calls, DISPATCH
with its fetch of the oldest transaction, BUSR, boot and power-on; and which event a step runs. -/

namespace Sys2Proof.Machine

/-- HOST issues a write transaction (R110); the bus delivers what its limit lets through (R234). DESIGN CHOICE,
log 2 and 7. -/
def hostWrite (sent : List Byte) (s : State) : Out :=
  if sent = [] then .refused .emptyTransaction
  else .next { s with rx := s.rx ++ [receive sent s] }

/-- HOST requests a read of k bytes (R110, R260). -/
def hostRead (k : Nat) (s : State) : State := { s with reads := s.reads ++ [k] }

/-- Fetch: the oldest write transaction delivered, and the state without it (R87). -/
def fetch (s : State) : Option (List Byte × State) :=
  match s.rx with
  | [] => none
  | bytes :: rest => some (bytes, { s with rx := rest })

/-- DISPATCH of the oldest transaction: decode it whole and execute it as one step (R231). -/
def dispatch (s : State) : Out :=
  match fetch s with
  | none => .refused .nothingReceived
  | some (bytes, t) =>
    match decode bytes with
    | .ok i => exec i t
    | .error .emptyTransaction => .refused .emptyTransaction

/-- BUSR serves the oldest read request (R260). -/
def busRead (s : State) : Out :=
  match s.reads with
  | [] => .refused .nothingRequested
  | k :: rest => .next (serveRead k { s with reads := rest })

/-- A direct call of a block operation (R87); ids outside 0..15 have no step (D32). -/
def callOp (op : BlockOp) (s : State) : Out :=
  match op with
  | .setColorRgb id r g b => withId id fun i => .next (setColorRgb i r g b s)
  | .setColorPacked id q => withId id fun i => .next (setColorPacked i q s)
  | .getColor id => withId id fun i => .next { s with ret := .color (colorOf i s) }
  | .setMaskBit bit on => withId bit fun i => .next (setMaskBit i on s)
  | .setMask mask16 => .next (setMask16 mask16 s)
  | .setDisplayState on => .next (setDisplayState on s)
  | .setBlinkState on onMs offMs => .next (setBlinkState on onMs offMs s)
  | .arm => thenState (arm s) fun t => { t with ret := .arm (!s.armed) }
  | .setDebounceDelay ms => .next (setDebounceDelay ms s)
  | .getButton id => withId id fun i => .next { s with ret := .button (buttonOf i s) }
  | .getButtons => .next { s with ret := .buttons s.deb }

/-- POWER_ON_RESET while the machine runs (R320, R296): fresh draws for the unspecified elements, and no gap
kept from a completion before it. DESIGN CHOICE, log 19, and log 33 for the gap. -/
def powerOnReset (s : State) : State := State.powerOn s.params s.agenda s.keys s.draws

/-- One agent's step (R87). Every rule has its effect in every state, before the boot order of R330 is complete too: commands,
scans, the blink service, reads and direct calls alike (DESIGN CHOICE, log 31). -/
def runEvent (e : Event) (s : State) : Out :=
  match e with
  | .hostWrite sent => hostWrite sent s
  | .hostRead k => .next (hostRead k s)
  | .clock t => .next { s with now := t }
  | .contacts k => .next { s with keys := k }
  | .dispatch => dispatch s
  | .scan inp => .next (scan inp s)
  | .blinkService => blinkService s
  | .call op => callOp op s
  | .disableInterrupt => .next { s with irqMasked := true }
  | .enableInterrupt => .next { s with irqMasked := false }
  | .busRead => busRead s
  | .tick => timerTick s
  | .periodEnd => periodEnd s
  | .periodElapsed => periodElapsed s
  | .configurePeriod => configurePeriod s.params.periodTicks s
  | .pullLow => .next (pullLow s)
  | .powerOnReset => .next (powerOnReset s)

/-- The event is a bus event, which a pending PERIOD_ELAPSED precedes (R285). -/
def isBusEvent (e : Event) : Bool :=
  match e with
  | .dispatch | .busRead => true
  | .hostWrite _ | .hostRead _ | .clock _ | .contacts _ | .scan _ | .blinkService | .call _ | .disableInterrupt
  | .enableInterrupt | .tick | .periodEnd | .periodElapsed | .configurePeriod | .pullLow | .powerOnReset => false

/-- One step of the machine: the scheduler's next pick. A pending PERIOD_ELAPSED runs before a bus event picked with it
(R285), and the pick stays. With nothing picked no agent steps (DESIGN CHOICE, log 1; DEDUCED, log 15). -/
def runAgenda (s : State) : Out :=
  match s.agenda with
  | [] => .next s
  | e :: rest =>
    if isBusEvent e && periodElapsedEnabled s then periodElapsed s
    else runEvent e { s with agenda := rest }

/-- Schedule DISPATCH of this transaction as the very next step: it is the oldest delivered, DISPATCH is the next pick, and no
PERIOD_ELAPSED is pending before it. DESIGN CHOICE, log 1. -/
def scheduleTransaction (bytes : List Byte) (s : State) : State :=
  { s with rx := bytes :: s.rx, agenda := .dispatch :: s.agenda, irqPending := false }

end Sys2Proof.Machine
end

