-- ==== Sys2Proof/Machine/Step.lean ====
section
/-! DEFINITION. The step of the machine, and how an opcode-table word is placed where the step fetches. -/

namespace Sys2Proof.Machine

/-- One step of one agent (20_memory.md R87). -/
def step (s : State) : Host.Outcome State Fault Refusal := runAgenda s

/-- The state in which the very next step dispatches the transaction an opcode-table word stands for. -/
def State.withFetchWord (s : State) (nbits w : Nat) : State := scheduleTransaction (tableTransaction nbits w) s

end Sys2Proof.Machine
end

