-- ==== Sys2Proof/Machine/Flags.lean ====
section
/-! DEFINITION. The block has no condition codes and no status register (10_state.md R61). What an error leaves is a record in
TRACE: here are the codes of R281 and R282 and which records are model faults. -/

namespace Sys2Proof.Machine

/-- The code of a record (R281, R282). -/
def recordCode : Record → Byte
  | .unrecognizedOpcode _ => 0x01
  | .payloadUnderrun _ _ _ => 0x02
  | .excessPayload _ _ => 0x03
  | .rearmBusy _ => 0x04
  | .readIdle => 0x05
  | .notConfigured => 0x81
  | .isrDeadline => 0x82
  | .latchTooShort => 0x83

/-- The record is a model fault, after which no claim holds (R282). -/
def isModelFault : Record → Bool
  | .notConfigured | .isrDeadline | .latchTooShort => true
  | .unrecognizedOpcode _ | .payloadUnderrun _ _ _ | .excessPayload _ _ | .rearmBusy _ | .readIdle => false

/-- The trace a fault outcome carries. -/
def faultTrace : Fault → List Record
  | .notConfigured t | .isrDeadline t | .latchTooShort t => t

end Sys2Proof.Machine
end

