-- ==== Sys2Proof/Safety.lean ====
section
/-! DEFINITION. What claims are stated in terms of: the invariant of 10_state.md R64, a run without a model fault, and the
relations between two states that say which part of the block is unchanged (20_memory.md R88, 70_reset_and_hazards.md R322). -/

namespace Sys2Proof.Machine

/-- The invariants of R64 and of the rules of the transmitter, as every step keeps them. R64.1 (TABLE has 384 entries) is the
type of the field; R64.3 and R64.4 are about a step and are statements of their own. -/
structure State.Inv (s : State) : Prop where
  /-- `0 < T0H_TICKS < T1H_TICKS` (R121). -/
  pulses : 0 < s.params.t0hTicks ∧ s.params.t0hTicks < s.params.t1hTicks
  /-- `ISR_DEADLINE <= T0H_TICKS`, the bound of a compare register that takes effect at once (R340). DEDUCED, log 32. -/
  deadline : s.params.isrDeadline ≤ s.params.t0hTicks.toNat
  /-- A configured period is PERIOD_TICKS (R43, R290). -/
  period_fixed : ∀ p, s.period = some p → p = s.params.periodTicks
  /-- A configured period is above T1H_TICKS (R330). -/
  period_above : ∀ p, s.period = some p → s.params.t1hTicks < p
  /-- Nothing is transmitted before configurePeriod (R331). -/
  armed_configured : s.armed = true → s.period ≠ none
  /-- R64.2. -/
  armed_cursor : s.armed = true → s.cursor < 384
  /-- During period p the compare value is TABLE[p] (R164). -/
  armed_cmp : s.armed = true → s.table[s.cursor.toNat]? = some s.cmp
  /-- Every entry of the table being sent is one of the two pulse widths (R37, R121). -/
  armed_table : s.armed = true → ∀ p : Fin 384, s.table[p] = s.params.t0hTicks ∨ s.table[p] = s.params.t1hTicks
  /-- CNT stays in 0..PERIOD-1 (R44). -/
  armed_cnt : s.armed = true → ∀ p, s.period = some p → s.cnt < p
  /-- The line is driven while armed (R45). -/
  armed_pin : s.armed = true → s.pin ≠ .hiz
  /-- PERIOD_ELAPSED is pending only while ARMED (R284). -/
  pending_armed : s.irqPending = true → s.armed = true
  /-- R64.5: between steps every matrix line is idle. -/
  rows_idle : s.rowDrive = none
  /-- R64.6: a bit whose raw and debounced values differ has a timestamp a scan wrote. -/
  stamped : ∀ id : Fin 16, s.raw.getLsbD id.val ≠ s.deb.getLsbD id.val → s.lastWritten.getLsbD id.val = true

/-- The step answered a state, not a model fault and not a refusal. -/
def completes (o : Out) : Bool :=
  match o with
  | .next _ => true
  | .fault _ | .refused _ => false

/-- The transmitter engine (R322): TABLE, ARMED, CURSOR, CMP, CNT, PERIOD, PIN, with the pending interrupt, its mask and the gap. -/
def SameEngine (s t : State) : Prop :=
  t.table = s.table ∧ t.armed = s.armed ∧ t.cursor = s.cursor ∧ t.cmp = s.cmp ∧ t.cnt = s.cnt ∧ t.period = s.period ∧
    t.pin = s.pin ∧ t.irqPending = s.irqPending ∧ t.irqMasked = s.irqMasked ∧ t.gap = s.gap

/-- The transmitter's configuration (10_state.md section 2). -/
def SameConfiguration (s t : State) : Prop :=
  t.color = s.color ∧ t.mask = s.mask ∧ t.display = s.display ∧ t.blinkEn = s.blinkEn ∧ t.blinkOnMs = s.blinkOnMs ∧
    t.blinkOffMs = s.blinkOffMs ∧ t.blinkPhase = s.blinkPhase ∧ t.blinkT0 = s.blinkT0 ∧
    t.blinkRefresh = s.blinkRefresh ∧ t.colorMode = s.colorMode

/-- The scanner's measured state (R322): RAW, DEB, LAST and ROW_DRIVE. -/
def SameScanner (s t : State) : Prop :=
  t.raw = s.raw ∧ t.deb = s.deb ∧ t.last = s.last ∧ t.lastWritten = s.lastWritten ∧ t.rowDrive = s.rowDrive

/-- The inputs from the environment (R58, R59) and the parameters (R10). -/
def SameInputs (s t : State) : Prop := t.now = s.now ∧ t.keys = s.keys ∧ t.params = s.params

/-- Payload byte `k + 1` as DISPATCH sees it: the byte received, or the draw for the missing one (R232). -/
def busByte (pay : List Byte) (s : State) (k : Nat) : Byte :=
  if h : k < pay.length then pay[k] else draw8 (s.draws + (k - pay.length))

/-- What one transaction of opcode byte `op` and required length `L` records, in the order of R283: an underrun, the
command's own record, a surplus. -/
def payloadRecords (op : Byte) (L : Nat) (pay : List Byte) (own : List Record) : List Record :=
  (if pay.length < L then [.payloadUnderrun op pay.length L] else []) ++ own ++
    (if L < pay.length then [.excessPayload op (pay.length - L)] else [])

/-- The transaction is no QUERY and no RESET, whatever its payload is (R261). -/
def keepsSlot (bytes : List Byte) : Bool :=
  match bytes with
  | [] => true
  | op :: _ => familyOf op != .query && familyOf op != .reset

/-- The event neither reads the bus, nor resets the block, nor issues a QUERY or RESET (R261). -/
def eventKeepsSlot (e : Event) : Bool :=
  match e with
  | .busRead | .powerOnReset => false
  | .hostWrite sent => keepsSlot sent
  | .hostRead _ | .clock _ | .contacts _ | .dispatch | .scan _ | .blinkService | .call _ | .disableInterrupt
  | .enableInterrupt | .tick | .periodEnd | .periodElapsed | .configurePeriod | .pullLow => true

/-- `n` bit periods in the untimed view: each ends and its interrupt is served (R164). -/
def bitPeriods : Nat → List Event
  | 0 => []
  | n + 1 => .periodEnd :: .periodElapsed :: bitPeriods n

/-- KEYS as the environment leaves it when each row of a scan is sampled (R201). -/
def keysAtRow (inp : ScanInput) (keys : U16) (r : Fin 4) : U16 :=
  let k0 := inp.row0.keys.getD keys
  let k1 := inp.row1.keys.getD k0
  let k2 := inp.row2.keys.getD k1
  match r with
  | 0 => k0
  | 1 => k1
  | 2 => k2
  | 3 => inp.row3.keys.getD k2

/-- The pass of a scan over row r. -/
def passOf (inp : ScanInput) (r : Fin 4) : RowPass :=
  match r with
  | 0 => inp.row0
  | 1 => inp.row1
  | 2 => inp.row2
  | 3 => inp.row3

/-- A sequence of scans as the debouncer sees them: for each its timestamp and raw sample, in order (R212). -/
def debounceAll : List (U32 × U16) → State → State
  | [], s => s
  | (t, raw) :: rest, s => debounceAll rest (debounce t raw s)

end Sys2Proof.Machine
end

