-- ==== Sys2Proof/Certificates/Slice0/Obligations.lean ====
section
/-! DEFINITION. The statements for the provers. Each formalises numbered rules of spec/ or follows from the sections it cites
(OBLIGATIONS.json). A command's statement gives its encoding, and its next state as one equation over every payload: exact,
short (draws in place of the missing bytes) and long, so what it leaves unchanged is stated with it. -/

open Sys2Proof Sys2Proof.Machine

/-! ### Encoding -/

/-- R111, R112, R113: no bit of a command is dropped between the encoder and the decoder. -/
def Obligations.DecodeOfEncode : Prop :=
  ∀ i : Instr, i.wellFormed = true → decode (encode i) = .ok i

/-- R110, R112: the decoder invents nothing: what it reads from bytes encodes to those bytes, and is well formed. -/
def Obligations.EncodeOfDecode : Prop :=
  ∀ (bytes : List Byte) (i : Instr), decode bytes = .ok i → encode i = bytes ∧ i.wellFormed = true

/-- R110: every transaction of at least one byte is a command, and the empty list is none. -/
def Obligations.DecodeRefusesOnlyNothing : Prop :=
  ∀ bytes : List Byte, decode bytes = .error .emptyTransaction ↔ bytes = []

/-- R112: "no two rows overlap". -/
def Obligations.OpcodeRowsDisjoint : Prop :=
  ∀ b : Byte, ∀ r ∈ opTable, ∀ r' ∈ opTable, rowMatches b r = true → rowMatches b r' = true → r = r'

/-- R123: the bytes no row matches are those of the listed ranges, 224 in all. -/
def Obligations.UnrecognizedBytesAreTheListedOnes : Prop :=
  (∀ b : Byte, familyOf b = .unrecognized ↔ isUnrecognizedByte b = true) ∧
    ((List.range 256).filter fun n => isUnrecognizedByte (BitVec.ofNat 8 n)).length = 224

/-- 95_test_vectors.md L2.2: opcode bytes written out from R112 decode to the commands they stand for. -/
def Obligations.SpecBytesDecode : Prop :=
  decode [0x00, 1, 2, 3] = .ok (.setLed 0 [1, 2, 3]) ∧ decode [0x0F, 0xE4] = .ok (.setLed 15 [0xE4]) ∧
    decode [0x10, 10, 20, 30] = .ok (.setAll [10, 20, 30]) ∧ decode [0x11] = .ok (.unrecognized 0x11 []) ∧
    decode [0x41] = .ok (.display true []) ∧ decode [0x42] = .ok (.unrecognized 0x42 []) ∧
    decode [0x60, 0, 0xC8] = .ok (.blinkDelay false [0, 0xC8]) ∧
    decode [0x61, 1, 0x2C] = .ok (.blinkDelay true [1, 0x2C]) ∧ decode [0x81] = .ok (.colorMode true []) ∧
    decode [0xB1] = .ok (.unrecognized 0xB1 []) ∧ decode [0xF0] = .ok (.reset []) ∧
    decode [0xFF] = .ok (.unrecognized 0xFF [])

/-- R115: the required payload length of every command in each colour mode. -/
def Obligations.PayloadLengths : Prop :=
  ∀ (i : Instr) (s : State), requiredLen i s =
    let m := if s.colorMode = .packed8 then 1 else 3
    match i with
    | .setLed _ _ | .setAll _ => m
    | .setEach _ => 16 * m
    | .setMask _ | .blinkDelay _ _ => 2
    | .debounce _ => 1
    | .display _ _ | .blink _ _ | .colorMode _ _ | .clear _ | .commit _ | .query _ | .reset _ => 0
    | .unrecognized _ pay => pay.length

/-- R118: `expand` on exact naturals, and its full table, row I, column c2. -/
def Obligations.PackedColourExpansion : Prop :=
  (∀ c2 i : BitVec 2, (expand c2 i).toNat = c2.toNat * 85 * (i.toNat + 1) / 4) ∧
    (∀ q : Byte, unpack q = ⟨expand (q.extractLsb' 4 2) (q.extractLsb' 6 2),
      expand (q.extractLsb' 2 2) (q.extractLsb' 6 2), expand (q.extractLsb' 0 2) (q.extractLsb' 6 2)⟩) ∧
    ((List.range 4).map fun i => (List.range 4).map fun c => expand (BitVec.ofNat 2 c) (BitVec.ofNat 2 i)) =
      [[0, 21, 42, 63], [0, 42, 85, 127], [0, 63, 127, 191], [0, 85, 170, 255]]

/-! ### Commands -/

/-- R240: SET_LED in both colour modes. -/
def Obligations.SetLedStoresOneColour : Prop :=
  (∀ (id : BitVec 4) (pay : List Byte), decode ((0#4 ++ id) :: pay) = .ok (.setLed id pay)) ∧
    ∀ (id : BitVec 4) (pay : List Byte) (s : State),
      (s.colorMode = .rgb24 → exec (.setLed id pay) s = .next { s with
        color := s.color.set id.toNat ⟨busByte pay s 0, busByte pay s 1, busByte pay s 2⟩ id.isLt
        draws := s.draws + (3 - pay.length)
        trace := s.trace ++ payloadRecords (0#4 ++ id) 3 pay [] }) ∧
      (s.colorMode = .packed8 → exec (.setLed id pay) s = .next { s with
        color := s.color.set id.toNat (unpack (busByte pay s 0)) id.isLt
        draws := s.draws + (1 - pay.length)
        trace := s.trace ++ payloadRecords (0#4 ++ id) 1 pay [] })

/-- R241: SET_ALL; the payload is read once, so in an underrun the same drawn bytes go to all 16 LEDs. -/
def Obligations.SetAllStoresOneColourEverywhere : Prop :=
  (∀ pay : List Byte, decode (0x10 :: pay) = .ok (.setAll pay)) ∧
    ∀ (pay : List Byte) (s : State),
      (s.colorMode = .rgb24 → exec (.setAll pay) s = .next { s with
        color := Vector.replicate 16 ⟨busByte pay s 0, busByte pay s 1, busByte pay s 2⟩
        draws := s.draws + (3 - pay.length)
        trace := s.trace ++ payloadRecords 0x10 3 pay [] }) ∧
      (s.colorMode = .packed8 → exec (.setAll pay) s = .next { s with
        color := Vector.replicate 16 (unpack (busByte pay s 0))
        draws := s.draws + (1 - pay.length)
        trace := s.trace ++ payloadRecords 0x10 1 pay [] })

/-- R242: SET_EACH; the k-th group goes to LED k, and missing groups are draws. -/
def Obligations.SetEachStoresOneGroupPerLed : Prop :=
  (∀ pay : List Byte, decode (0x20 :: pay) = .ok (.setEach pay)) ∧
    ∀ (pay : List Byte) (s : State),
      (s.colorMode = .rgb24 → exec (.setEach pay) s = .next { s with
        color := Vector.ofFn fun k =>
          ⟨busByte pay s (3 * k.val), busByte pay s (3 * k.val + 1), busByte pay s (3 * k.val + 2)⟩
        draws := s.draws + (48 - pay.length)
        trace := s.trace ++ payloadRecords 0x20 48 pay [] }) ∧
      (s.colorMode = .packed8 → exec (.setEach pay) s = .next { s with
        color := Vector.ofFn fun k => unpack (busByte pay s k.val)
        draws := s.draws + (16 - pay.length)
        trace := s.trace ++ payloadRecords 0x20 16 pay [] })

/-- R243 (with R154): SET_MASK, high byte first. -/
def Obligations.SetMaskIsBigEndian : Prop :=
  (∀ pay : List Byte, decode (0x30 :: pay) = .ok (.setMask pay)) ∧
    ∀ (pay : List Byte) (s : State), exec (.setMask pay) s = .next { s with
      mask := ((busByte pay s 0).setWidth 16 <<< 8) ||| (busByte pay s 1).setWidth 16
      draws := s.draws + (2 - pay.length)
      trace := s.trace ++ payloadRecords 0x30 2 pay [] }

/-- R244 (with R155): DISPLAY sets the flag and transmits nothing. -/
def Obligations.DisplaySetsTheFlag : Prop :=
  (∀ pay : List Byte, decode (0x40 :: pay) = .ok (.display false pay) ∧ decode (0x41 :: pay) = .ok (.display true pay)) ∧
    ∀ (on : Bool) (pay : List Byte) (s : State), exec (.display on pay) s = .next { s with
      display := on
      trace := s.trace ++ payloadRecords (if on then 0x41 else 0x40) 0 pay [] }

/-- R245 (with R156): BLINK keeps the durations, restarts the lit phase, clears the refresh, and stamps it when enabling. -/
def Obligations.BlinkRestartsTheLitPhase : Prop :=
  (∀ pay : List Byte, decode (0x50 :: pay) = .ok (.blink false pay) ∧ decode (0x51 :: pay) = .ok (.blink true pay)) ∧
    ∀ (on : Bool) (pay : List Byte) (s : State), exec (.blink on pay) s = .next { s with
      blinkPhase := .lit
      blinkRefresh := false
      blinkT0 := if on then s.now else s.blinkT0
      blinkEn := on
      trace := s.trace ++ payloadRecords (if on then 0x51 else 0x50) 0 pay [] }

/-- R246: BLINK_DELAY writes the duration its low bit selects, and touches neither the phase nor its start. -/
def Obligations.BlinkDelayWritesTheSelectedDuration : Prop :=
  (∀ pay : List Byte,
    decode (0x60 :: pay) = .ok (.blinkDelay false pay) ∧ decode (0x61 :: pay) = .ok (.blinkDelay true pay)) ∧
    ∀ (pay : List Byte) (s : State),
      let v : U16 := ((busByte pay s 0).setWidth 16 <<< 8) ||| (busByte pay s 1).setWidth 16
      exec (.blinkDelay true pay) s = .next { s with
        blinkOnMs := v
        draws := s.draws + (2 - pay.length)
        trace := s.trace ++ payloadRecords 0x61 2 pay [] } ∧
      exec (.blinkDelay false pay) s = .next { s with
        blinkOffMs := v
        draws := s.draws + (2 - pay.length)
        trace := s.trace ++ payloadRecords 0x60 2 pay [] }

/-- R247 (with R200): DEBOUNCE sets the delay and nothing of the scanner's measured state. -/
def Obligations.DebounceSetsTheDelay : Prop :=
  (∀ pay : List Byte, decode (0x70 :: pay) = .ok (.debounce pay)) ∧
    ∀ (pay : List Byte) (s : State), exec (.debounce pay) s = .next { s with
      delay := busByte pay s 0
      draws := s.draws + (1 - pay.length)
      trace := s.trace ++ payloadRecords 0x70 1 pay [] }

/-- R248: COLOR_MODE; stored colours are kept. -/
def Obligations.ColorModeSelectsTheFormat : Prop :=
  (∀ pay : List Byte,
    decode (0x80 :: pay) = .ok (.colorMode false pay) ∧ decode (0x81 :: pay) = .ok (.colorMode true pay)) ∧
    ∀ (mode : Bool) (pay : List Byte) (s : State), exec (.colorMode mode pay) s = .next { s with
      colorMode := if mode then .rgb24 else .packed8
      trace := s.trace ++ payloadRecords (if mode then 0x81 else 0x80) 0 pay [] }

/-- R249: CLEAR zeroes every colour and transmits nothing. -/
def Obligations.ClearZeroesEveryColour : Prop :=
  (∀ pay : List Byte, decode (0x90 :: pay) = .ok (.clear pay)) ∧
    ∀ (pay : List Byte) (s : State), exec (.clear pay) s = .next { s with
      color := Vector.replicate 16 ⟨0, 0, 0⟩
      trace := s.trace ++ payloadRecords 0x90 0 pay [] }

/-- R250 and the accepted arm of R160: the table from the state as it is, cursor 0, the first compare value, the pin enabled,
ARMED; colours, mask and configuration are kept. The gap hypothesis is R342's, where LATCH_LOW_MIN is given. -/
def Obligations.CommitStartsATransmission : Prop :=
  (∀ pay : List Byte, decode (0xA0 :: pay) = .ok (.commit pay)) ∧
    ∀ (pay : List Byte) (s : State), s.period ≠ none → s.armed = false →
      (∀ least ticks, s.params.latchLowMin = some least → s.gap = some ticks → least ≤ ticks) →
      exec (.commit pay) s = .next { s with
        table := Vector.ofFn fun p => if bitval s p then s.params.t1hTicks else s.params.t0hTicks
        cursor := 0
        cmp := if bitval s 0 then s.params.t1hTicks else s.params.t0hTicks
        cnt := 0
        pin := if s.pin = .hiz then .low else s.pin
        armed := true
        trace := s.trace ++ payloadRecords 0xA0 0 pay [] }

/-- R121, R122, R157, R158: what position 24·led + 8·slot + k of the table of an accepted COMMIT carries: slots are G, R, B, bits
most significant first, and an LED that is not lit sends zeros. -/
def Obligations.CommitTableIsTheWireWord : Prop :=
  ∀ (pay : List Byte) (s t : State), s.armed = false → exec (.commit pay) s = .next t →
    ∀ (i : Fin 16) (k : Fin 3) (b : Fin 8),
      let lit := s.display && s.mask.getLsbD i.val && (!s.blinkEn || s.blinkPhase == .lit)
      let channel := match k with
        | 0 => s.color[i].g
        | 1 => s.color[i].r
        | 2 => s.color[i].b
      t.table[24 * i.val + 8 * k.val + b.val]'(by omega) =
        if lit && channel.getLsbD (7 - b.val) then s.params.t1hTicks else s.params.t0hTicks

/-- R155, R157 and the source's property of 95_test_vectors.md L1.7: with the display off an accepted COMMIT sends 384 "0" bits. -/
def Obligations.DisplayOffSendsZeros : Prop :=
  ∀ (pay : List Byte) (s t : State), s.display = false → s.armed = false → exec (.commit pay) s = .next t →
    ∀ p : Fin 384, t.table[p] = s.params.t0hTicks

/-- R160: a COMMIT while busy changes no state but the trace, and records RearmBusy before a surplus (R283). -/
def Obligations.CommitWhileBusyIsIgnored : Prop :=
  ∀ (pay : List Byte) (s : State), s.period ≠ none → s.armed = true →
    exec (.commit pay) s = .next { s with trace := s.trace ++ payloadRecords 0xA0 0 pay [.rearmBusy s.cursor] }

/-- R331, R283: an arm while PERIOD is UNCONFIGURED records the model fault NotConfigured, and a surplus after it. That the run ends
there is the model's reading of R282 (DEDUCED, log 10). -/
def Obligations.CommitBeforeConfigurationFaults : Prop :=
  ∀ (pay : List Byte) (s : State), s.period = none →
    exec (.commit pay) s = .fault (.notConfigured (s.trace ++ payloadRecords 0xA0 0 pay [.notConfigured]))

/-- R342, timed model: an arm that would be accepted less than LATCH_LOW_MIN after the last completion is LatchTooShort, and a surplus
is recorded after it (R283). The gap in ticks is the model's count (DESIGN CHOICE, log 8), and that the run ends there its reading
of R282 (DEDUCED, log 10). -/
def Obligations.CommitTooSoonFaults : Prop :=
  ∀ (pay : List Byte) (s : State) (least ticks : Nat), s.period ≠ none → s.armed = false →
    s.params.latchLowMin = some least → s.gap = some ticks → ticks < least →
    exec (.commit pay) s = .fault (.latchTooShort (s.trace ++ payloadRecords 0xA0 0 pay [.latchTooShort]))

/-- R251: QUERY captures DEB in the slot, whatever the slot held, and no scan changes what is captured. -/
def Obligations.QueryCapturesTheButtons : Prop :=
  (∀ pay : List Byte, decode (0xB0 :: pay) = .ok (.query pay)) ∧
    ∀ (pay : List Byte) (s : State), exec (.query pay) s = .next { s with
      rp := .buttons s.deb
      trace := s.trace ++ payloadRecords 0xB0 0 pay [] } ∧
      ∀ inp : ScanInput, (scan inp s).rp = s.rp

/-- R252, R322: RESET sets the configuration subset and leaves the engine and the measured state. -/
def Obligations.ResetRestoresTheConfiguration : Prop :=
  (∀ pay : List Byte, decode (0xF0 :: pay) = .ok (.reset pay)) ∧
    ∀ (pay : List Byte) (s : State), exec (.reset pay) s = .next { s with
      color := s.params.resetColor
      mask := s.params.resetMask
      display := s.params.resetDisplay
      blinkEn := false
      blinkOnMs := s.params.resetBlinkOnMs
      blinkOffMs := s.params.resetBlinkOffMs
      blinkPhase := .lit
      blinkRefresh := false
      colorMode := s.params.resetColorMode
      delay := s.params.resetDebounceMs
      rp := .idle
      trace := s.trace ++ payloadRecords 0xF0 0 pay [] }

/-- R253, R262: an unrecognized opcode with any payload changes nothing but the trace, and records no surplus. -/
def Obligations.UnrecognizedOpcodeIsANoOp : Prop :=
  (∀ (op : Byte) (pay : List Byte), isUnrecognizedByte op = true → decode (op :: pay) = .ok (.unrecognized op pay)) ∧
    ∀ (op : Byte) (pay : List Byte) (s : State),
      exec (.unrecognized op pay) s = .next { s with trace := s.trace ++ [.unrecognizedOpcode op] }

/-- R322, D28, C8: no command writes the scanner's measured state or the inputs, and only COMMIT the transmitter engine. -/
def Obligations.CommandsKeepEngineAndScanner : Prop :=
  ∀ (i : Instr) (s t : State), exec i s = .next t →
    SameScanner s t ∧ SameInputs s t ∧ ((∀ pay, i ≠ .commit pay) → SameEngine s t)

/-! ### The step and reset -/

/-- R231 and the schedule of R87: DISPATCH of the oldest transaction is `exec` of the command it decodes to, on the state
without that transaction and that pick. No PERIOD_ELAPSED may be due before it (R285). -/
def Obligations.StepRunsTheDecodedCommand : Prop :=
  ∀ (s : State) (later : List Event) (bytes : List Byte) (queue : List (List Byte)) (i : Instr),
    s.agenda = .dispatch :: later → s.rx = bytes :: queue → decode bytes = .ok i →
    (s.armed && s.irqPending && !s.irqMasked) = false →
    step s = exec i { s with agenda := later, rx := queue }

/-- R285: with a bus event picked, a PERIOD_ELAPSED that can be taken runs first, and the pick stays. -/
def Obligations.PendingInterruptPrecedesBusEvents : Prop :=
  ∀ (s : State) (e : Event) (later : List Event), s.agenda = e :: later → e = .dispatch ∨ e = .busRead →
    s.armed = true → s.irqPending = true → s.irqMasked = false → step s = periodElapsed s

/-- R234: the bus delivers at most BUS_RX_MAX bytes of a write transaction, all of them where the limit is not given. That the
transaction is always appended to a queue without a bound is the model's choice (DESIGN CHOICE, log 2), and so is the empty entry
that a limit of 0 leaves (DESIGN CHOICE, log 7). -/
def Obligations.ReceiveLimitCutsATransaction : Prop :=
  ∀ (s : State) (sent : List Byte) (later : List Event), s.agenda = .hostWrite sent :: later → sent ≠ [] →
    (s.params.busRxMax = none → step s = .next { s with agenda := later, rx := s.rx ++ [sent] }) ∧
    ∀ m, s.params.busRxMax = some m →
      step s = .next { s with agenda := later, rx := s.rx ++ [sent.take (min sent.length m)] }

/-- R320, R321 with D9's values: what power-on leaves in every element the spec gives a value. -/
def Obligations.ResetLeavesTheSpecifiedValues : Prop :=
  let s := State.reset
  s.color = Vector.replicate 16 ⟨0, 0, 0⟩ ∧ s.mask = 0xFFFF ∧ s.display = true ∧ s.blinkEn = false ∧
    s.blinkOnMs = 0 ∧ s.blinkOffMs = 0 ∧ s.blinkPhase = .lit ∧ s.blinkRefresh = false ∧ s.colorMode = .rgb24 ∧
    s.armed = false ∧ s.period = none ∧ s.pin = .hiz ∧ s.irqPending = false ∧ s.raw = 0 ∧ s.deb = 0 ∧
    s.delay = s.params.resetDebounceMs ∧ s.rowDrive = none ∧ s.rp = .idle ∧ s.trace = []

/-- R64 at reset: the invariant holds of the state after power-on, for every value of the OPEN parameters. Its bound on ISR_DEADLINE is
the model's reading of R340 (DEDUCED, log 32). -/
def Obligations.ResetMeetsTheInvariant : Prop := State.reset.Inv

/-- R64: every step of every agent keeps the invariant, from every state that meets it. Its bound on ISR_DEADLINE is the model's reading
of R340 (DEDUCED, log 32). -/
def Obligations.StepKeepsTheInvariant : Prop :=
  ∀ s t : State, s.Inv → step s = .next t → t.Inv

/-- R10, R60: no step changes a parameter, and every step but a power-on reset only appends to the trace. -/
def Obligations.StepsKeepParamsAndAppendToTrace : Prop :=
  ∀ s t : State, step s = .next t →
    t.params = s.params ∧ (s.agenda.head? ≠ some .powerOnReset → s.trace <+: t.trace)

/-- R282, R283: a step that ends in a model fault appends the record of that fault, and after it nothing but the surplus of the COMMIT
that was dispatched. That the run ends there is the model's reading of R282 (DEDUCED, log 10). -/
def Obligations.FaultsRecordThemselves : Prop :=
  ∀ (s : State) (f : Fault), step s = .fault f →
    let surplus := match s.agenda.head?, s.rx.head? with
      | some .dispatch, some (_ :: pay) => if pay = [] then [] else [Record.excessPayload 0xA0 pay.length]
      | _, _ => []
    match f with
    | .notConfigured t => t = s.trace ++ .notConfigured :: surplus
    | .isrDeadline t => t = s.trace ++ [.isrDeadline]
    | .latchTooShort t => t = s.trace ++ .latchTooShort :: surplus

/-! ### The transmitter -/

/-- R163, R284: PERIOD_ELAPSED while enabled and in time: the next compare value, or on the 384th the completion. That CNT equal to
ISR_DEADLINE is in time is the model's reading of R340 (DEDUCED, log 13), and the gap that starts at 0 its count (DESIGN CHOICE,
log 8). -/
def Obligations.PeriodElapsedAdvancesOrCompletes : Prop :=
  ∀ (s : State) (later : List Event), s.agenda = .periodElapsed :: later →
    s.armed = true → s.irqPending = true → s.irqMasked = false → s.cnt.toNat ≤ s.params.isrDeadline →
    (∀ h : s.cursor.toNat + 1 < 384, step s = .next { s with
      agenda := later
      irqPending := false
      cursor := s.cursor + 1
      cmp := s.table[s.cursor.toNat + 1] }) ∧
    (s.cursor = 383 → step s = .next { s with
      agenda := later
      irqPending := false
      cursor := 384
      armed := false
      pin := .low
      gap := some 0 })

/-- R163, R284, R340: PERIOD_ELAPSED has no step while not enabled, and served after ISR_DEADLINE it is the model fault. The refusal
by name is log 21's (DEDUCED), CNT above ISR_DEADLINE as the test of lateness log 13's (DEDUCED). -/
def Obligations.PeriodElapsedDisabledOrLate : Prop :=
  ∀ (s : State) (later : List Event), s.agenda = .periodElapsed :: later →
    ((s.armed && s.irqPending && !s.irqMasked) = false → step s = .refused .periodElapsedNotEnabled) ∧
    ((s.armed && s.irqPending && !s.irqMasked) = true → s.params.isrDeadline < s.cnt.toNat →
      step s = .fault (.isrDeadline (s.trace ++ [.isrDeadline])))

/-- R166, R287: one timer tick: the level by CNT and CMP, the count, and at the period's end the signal, or the fault where the
last signal was never served. While not ARMED the timer is stopped; that the tick is a step, and lengthens the gap, is the model's
choice (DEDUCED, log 21; DESIGN CHOICE, log 8). Once the 384th period has ended no further edge rises (DEDUCED, log 12). -/
def Obligations.TimerTick : Prop :=
  ∀ (s : State) (later : List Event), s.agenda = .tick :: later →
    (s.armed = false → step s = .next { s with agenda := later, gap := s.gap.map (· + 1) }) ∧
    (s.armed = true → ∀ p, s.period = some p →
      let level := if s.irqPending && s.cursor == 383 then Pin.low else if s.cnt < s.cmp then .high else .low
      (s.cnt + 1 ≠ p → step s = .next { s with agenda := later, pin := level, cnt := s.cnt + 1 }) ∧
      (s.cnt + 1 = p → s.irqPending = false →
        step s = .next { s with agenda := later, pin := level, cnt := 0, irqPending := true }) ∧
      (s.cnt + 1 = p → s.irqPending = true → step s = .fault (.isrDeadline (s.trace ++ [.isrDeadline]))))

/-- R165, R45, R340: the pulse of one bit period. First clause: after k ticks of a bit period whose compare value is loaded, the line
is HIGH while k ≤ CMP and LOW after. Second clause: with the interrupt served after any number d of ticks up to ISR_DEADLINE, the line
is HIGH for exactly TABLE[p] ticks of period p all the same, so the period has one rising edge. The invariant's bound on
ISR_DEADLINE is the model's reading of R340 (DEDUCED, log 32), and CNT up to ISR_DEADLINE as in time that of log 13 (DEDUCED). -/
def Obligations.PulseShapeWithinAPeriod : Prop :=
  (∀ (k : Nat) (s : State) (later : List Event) (p : U16), s.agenda = List.replicate k .tick ++ later →
    s.armed = true → s.period = some p → s.cnt = 0 → 0 < k → k < p.toNat →
    (s.irqPending && s.cursor == 383) = false →
    Sys2Proof.core.run k s = .next { s with
      agenda := later
      cnt := BitVec.ofNat 16 k
      pin := if k ≤ s.cmp.toNat then .high else .low }) ∧
  ∀ (d m : Nat) (s : State) (later : List Event) (p : U16) (h : s.cursor.toNat + 1 < 384), s.Inv →
    s.agenda = List.replicate d .tick ++ .periodElapsed :: (List.replicate m .tick ++ later) →
    s.armed = true → s.period = some p → s.cnt = 0 → s.irqPending = true → s.irqMasked = false →
    d ≤ s.params.isrDeadline → 0 < d + m → d + m < p.toNat →
    Sys2Proof.core.run (d + (1 + m)) s = .next { s with
      agenda := later
      irqPending := false
      cursor := s.cursor + 1
      cmp := s.table[s.cursor.toNat + 1]
      cnt := BitVec.ofNat 16 (d + m)
      pin := if d + m ≤ s.table[s.cursor.toNat + 1].toNat then .high else .low }

/-- R166, R284: the untimed view's end of a bit period is exactly the remaining ticks of that period. The event `periodEnd` is the
model's own (DESIGN CHOICE, log 11). -/
def Obligations.TicksRefinePeriodEnd : Prop :=
  ∀ (s : State) (later : List Event) (p : U16), s.armed = true → s.period = some p → s.cnt < p →
    s.irqPending = false → s.agenda = List.replicate (p.toNat - s.cnt.toNat) .tick ++ later →
    Sys2Proof.core.run (p.toNat - s.cnt.toNat) s = step { s with agenda := .periodEnd :: later }

/-- R164: a transmission is exactly 384 bit periods: an accepted arm begins period 0, during period k the cursor is k and CMP is
TABLE[k], and the 384th PERIOD_ELAPSED completes it, the line LOW. A bit period ends by the event `periodEnd`, which is the model's own
(DESIGN CHOICE, log 11). -/
def Obligations.TransmissionIs384BitPeriods : Prop :=
  ∀ (s0 s : State) (later : List Event), s0.armed = false → s0.irqPending = false → s0.irqMasked = false →
    s0.agenda = bitPeriods 384 ++ later → arm s0 = .next s →
    (∀ k : Fin 384, ∃ t : State, Sys2Proof.core.run (2 * k.val) s = .next t ∧
      t.armed = true ∧ t.cursor.toNat = k.val ∧ t.cmp = s.table[k] ∧ t.table = s.table) ∧
    ∃ t : State, Sys2Proof.core.run 768 s = .next t ∧
      t.armed = false ∧ t.cursor = 384 ∧ t.pin = .low ∧ t.table = s.table ∧ t.agenda = later

/-- R64.3, R64.4, R89, R346: while ARMED no step but a power-on reset writes TABLE, and CURSOR and CMP change only in the
bit-period interrupt, the cursor by one. -/
def Obligations.TransmissionOwnsTheTable : Prop :=
  ∀ s t : State, s.armed = true → step s = .next t → s.agenda.head? ≠ some .powerOnReset →
    t.table = s.table ∧
      ((t.cursor = s.cursor ∧ t.cmp = s.cmp ∧ t.armed = true) ∨
        (periodElapsed s = .next { t with agenda := s.agenda } ∧ t.cursor = s.cursor + 1))

/-- R163: there is no cancellation: only the completing interrupt, or a power-on reset, ends a transmission. -/
def Obligations.NoCancellation : Prop :=
  ∀ s t : State, s.armed = true → step s = .next t → s.agenda.head? ≠ some .powerOnReset → t.armed = false →
    periodElapsed s = .next { t with agenda := s.agenda } ∧ s.cursor = 383 ∧ t.cursor = 384 ∧ t.pin = .low

/-- R64.3: the cursor changes only by an arm while idle, to 0, or by one in the interrupt while ARMED. -/
def Obligations.CursorDiscipline : Prop :=
  ∀ s t : State, step s = .next t → s.agenda.head? ≠ some .powerOnReset →
    t.cursor = s.cursor ∨ (s.armed = false ∧ t.cursor = 0 ∧ t.armed = true) ∨
      (s.armed = true ∧ periodElapsed s = .next { t with agenda := s.agenda } ∧ t.cursor = s.cursor + 1)

/-- R170: the blink service: no change before the duration has passed, at most one phase change, a refresh kept while busy
and armed once idle, with the phase already changed in the table it sends; an arm before configurePeriod, or sooner than
LATCH_LOW_MIN after a completion, is the model fault. `ready` is R342's gap, where LATCH_LOW_MIN is given (the model's count:
DESIGN CHOICE, log 8). -/
def Obligations.BlinkServiceStep : Prop :=
  ∀ (s : State) (later : List Event), s.agenda = .blinkService :: later →
    let dur := if s.blinkPhase = .lit then s.blinkOnMs else s.blinkOffMs
    let due := s.blinkEn = true ∧ dur.setWidth 32 ≤ s.now - s.blinkT0
    let flipped := if s.blinkPhase = .lit then Phase.unlit else .lit
    let ready := ∀ least ticks, s.params.latchLowMin = some least → s.gap = some ticks → least ≤ ticks
    (¬ due → s.blinkRefresh = false → step s = .next { s with agenda := later }) ∧
    (¬ due → s.armed = true → step s = .next { s with agenda := later }) ∧
    (due → s.armed = true → step s = .next { s with
      agenda := later, blinkPhase := flipped, blinkT0 := s.now, blinkRefresh := true }) ∧
    (¬ due → s.blinkRefresh = true → s.armed = false → s.period ≠ none → ready →
      step s = .next { startTransmission { s with agenda := later } with blinkRefresh := false }) ∧
    (due → s.armed = false → s.period ≠ none → ready →
      step s = .next { startTransmission { s with
        agenda := later, blinkPhase := flipped, blinkT0 := s.now } with blinkRefresh := false }) ∧
    ((due ∨ s.blinkRefresh = true) → s.armed = false → s.period = none →
      step s = .fault (.notConfigured (s.trace ++ [.notConfigured]))) ∧
    ((due ∨ s.blinkRefresh = true) → s.armed = false → s.period ≠ none → ¬ ready →
      step s = .fault (.latchTooShort (s.trace ++ [.latchTooShort])))

/-- R43, R330 step 3, R332, R292: configurePeriod has no step while ARMED; while idle and UNCONFIGURED it sets PERIOD to PERIOD_TICKS,
for pulse widths in order and PERIOD_TICKS above T1H_TICKS, and is refused by name for any other. PERIOD is set once: while it holds
a value configurePeriod has no step, and no step but a power-on reset changes it. That boot is over once PERIOD holds a value, and
that a call after it is a refusal, is the model's reading (DEDUCED, log 20). -/
def Obligations.ConfigurePeriodOnlyWhileIdle : Prop :=
  (∀ (s : State) (later : List Event), s.agenda = .configurePeriod :: later →
    let inOrder := 0 < s.params.t0hTicks ∧ s.params.t0hTicks < s.params.t1hTicks ∧ s.params.t1hTicks < s.params.periodTicks
    (s.armed = true → step s = .refused .configureWhileArmed) ∧
    (s.armed = false → s.period ≠ none → step s = .refused .configuredAlready) ∧
    (s.armed = false → s.period = none → inOrder →
      step s = .next { s with agenda := later, period := some s.params.periodTicks }) ∧
    (s.armed = false → s.period = none → ¬ inOrder → step s = .refused (.periodOutOfRange s.params.periodTicks))) ∧
  ∀ s t : State, s.period ≠ none → step s = .next t → s.agenda.head? ≠ some .powerOnReset → t.period = s.period

/-- R150, R151, R152: the two setColor calls store one LED's triple and nothing else, and getColor returns the stored triple, so
a colour set is the colour read back, for every LED id. -/
def Obligations.SetColorThenGetColor : Prop :=
  ∀ (s : State) (id : Nat) (h : id < 16),
    (∀ r g b : Byte, callOp (.setColorRgb id r g b) s = .next { s with color := s.color.set id ⟨r, g, b⟩ h }) ∧
    (∀ q : Byte, callOp (.setColorPacked id q) s = .next { s with color := s.color.set id (unpack q) h }) ∧
    callOp (.getColor id) s = .next { s with ret := .color s.color[id] } ∧
    ∀ c : Color, (s.color.set id c h)[id] = c

/-- R153: setMask(bit, on) writes that bit and leaves the other fifteen, and all else. -/
def Obligations.SetMaskBitWritesOneBit : Prop :=
  ∀ (s : State) (bit : Nat) (on : Bool), bit < 16 → ∃ m : U16,
    callOp (.setMaskBit bit on) s = .next { s with mask := m } ∧ m.getLsbD bit = on ∧
      ∀ j, j ≠ bit → m.getLsbD j = s.mask.getLsbD j

/-- R154, R155, R156, R200: the whole-word setters store their arguments; enabling blink stamps its start, disabling keeps it. -/
def Obligations.SettersStoreTheirArguments : Prop :=
  ∀ s : State,
    (∀ m : U16, callOp (.setMask m) s = .next { s with mask := m }) ∧
    (∀ on : Bool, callOp (.setDisplayState on) s = .next { s with display := on }) ∧
    (∀ (on : Bool) (onMs offMs : U16), callOp (.setBlinkState on onMs offMs) s = .next { s with
      blinkOnMs := onMs
      blinkOffMs := offMs
      blinkPhase := .lit
      blinkRefresh := false
      blinkT0 := if on then s.now else s.blinkT0
      blinkEn := on }) ∧
    (∀ ms : Byte, callOp (.setDebounceDelay ms) s = .next { s with delay := ms })

/-- R205, R206: getButton and getButtons return the published word, never the raw sample, and change nothing else;
an id outside 0..15 is refused (D32). -/
def Obligations.ButtonReadsReturnThePublishedWord : Prop :=
  ∀ s : State, callOp .getButtons s = .next { s with ret := .buttons s.deb } ∧
    ∀ id : Nat, (id < 16 → callOp (.getButton id) s = .next { s with ret := .button (s.deb.getLsbD id) }) ∧
      (16 ≤ id → callOp (.getButton id) s = .refused (.idOutOfRange id))

/-- D32: a direct call with an id or bit outside 0..15 is refused. -/
def Obligations.OutOfRangeIdsAreRefused : Prop :=
  ∀ (s : State) (id : Nat), 16 ≤ id →
    (∀ r g b, callOp (.setColorRgb id r g b) s = .refused (.idOutOfRange id)) ∧
    (∀ q, callOp (.setColorPacked id q) s = .refused (.idOutOfRange id)) ∧
    callOp (.getColor id) s = .refused (.idOutOfRange id) ∧
    (∀ on, callOp (.setMaskBit id on) s = .refused (.idOutOfRange id)) ∧
    callOp (.getButton id) s = .refused (.idOutOfRange id)

/-! ### The scanner and the read path -/

/-- R201, R213, R343: bit 4·r + c of a scan's sample: a draw where the row was not settled or an open contact may ghost, else the
contact as KEYS is when that row is sampled; the rows end released and KEYS as the environment left it. -/
def Obligations.ScanSamplesTheContacts : Prop :=
  ∀ (inp : ScanInput) (s : State) (r c : Fin 4),
    let keys := keysAtRow inp s.keys r
    (scan inp s).raw.getLsbD (4 * r.val + c.val) =
      (if (passOf inp r).waited < s.params.rowSettle ∨ (closedAt keys r c = false ∧ ghostAt keys r c = true) then
        drawBit (s.draws + 4 * r.val + c.val)
      else closedAt keys r c) ∧
    (scan inp s).rowDrive = none ∧ (scan inp s).keys = keysAtRow inp s.keys 3

/-- R202, R203: from the sample on, each bit by itself: its timestamp, its commit, the one publish of DEB, and the returned
`changed`; nothing of the transmitter, the read path or the trace is touched. -/
def Obligations.ScanDebouncesEachBit : Prop :=
  ∀ (inp : ScanInput) (s t : State) (later : List Event), s.agenda = .scan inp :: later → step s = .next t →
    (∀ id : Fin 16,
      t.last[id] = (if t.raw.getLsbD id.val ≠ s.raw.getLsbD id.val then s.now else s.last[id]) ∧
      t.deb.getLsbD id.val =
        if s.delay.setWidth 32 ≤ s.now - t.last[id] ∧ t.raw.getLsbD id.val ≠ s.deb.getLsbD id.val then
          t.raw.getLsbD id.val
        else s.deb.getLsbD id.val) ∧
    t.ret = .changed (t.deb != s.deb) ∧ SameEngine s t ∧ SameConfiguration s t ∧ t.rp = s.rp ∧ t.delay = s.delay ∧
    t.now = s.now ∧ t.trace = s.trace

/-- R204: with DELAY = 0 every scan completes and publishes its raw sample. -/
def Obligations.ZeroDelayPublishesAtOnce : Prop :=
  ∀ (inp : ScanInput) (s : State) (later : List Event), s.agenda = .scan inp :: later → s.delay = 0 →
    ∃ t : State, step s = .next t ∧ t.deb = t.raw

/-- R212: a changed bit that every later scan sees unchanged is published exactly from the first scan that is at least DELAY
after the change; if a scan before that sees it change back, it is stamped anew and nothing is published. -/
def Obligations.CommitLaw : Prop :=
  ∀ (s : State) (id : Fin 16) (t0 : U32) (raw0 : U16) (later : List (U32 × U16)),
    raw0.getLsbD id.val ≠ s.raw.getLsbD id.val → raw0.getLsbD id.val ≠ s.deb.getLsbD id.val →
    (∀ x ∈ later, x.2.getLsbD id.val = raw0.getLsbD id.val) →
    let held := debounceAll ((t0, raw0) :: later) s
    let due := ∃ x ∈ (t0, raw0) :: later, s.delay.setWidth 32 ≤ x.1 - t0
    (due → held.deb.getLsbD id.val = raw0.getLsbD id.val) ∧
    (¬ due → held.deb.getLsbD id.val = s.deb.getLsbD id.val ∧
      ∀ (t1 : U32) (raw1 : U16), raw1.getLsbD id.val ≠ raw0.getLsbD id.val →
        (debounce t1 raw1 held).deb.getLsbD id.val = s.deb.getLsbD id.val ∧ (debounce t1 raw1 held).last[id] = t1)

/-- R48, R88, C8: no step but a scan or a power-on reset writes RAW, DEB or LAST. -/
def Obligations.OnlyScansWriteTheButtons : Prop :=
  ∀ s t : State, step s = .next t → (∀ inp, s.agenda.head? ≠ some (.scan inp)) →
    s.agenda.head? ≠ some .powerOnReset → SameScanner s t

/-- R211: the elapsed-time test counts forward from the stamp modulo 2^32, so it is right across a wrap of NOW. -/
def Obligations.ElapsedTimeAcrossAWrap : Prop :=
  ∀ (since d : U32) (delay : Byte) (dur : U16),
    elapsed (since + d) since delay = decide (delay.toNat ≤ d.toNat) ∧
      elapsed (since + d) since dur = decide (dur.toNat ≤ d.toNat)

/-- R260: a bus read of any length: a pending report is sent high byte first and consumed, bytes past the second are draws; an
idle read answers draws and records ReadIdle. It touches nothing else. -/
def Obligations.BusReadServesTheSlot : Prop :=
  ∀ (s : State) (later : List Event) (k : Nat) (queue : List Nat), s.agenda = .busRead :: later →
    s.reads = k :: queue → (s.armed && s.irqPending && !s.irqMasked) = false →
    (∀ v, s.rp = .buttons v → step s = .next { s with
      agenda := later
      reads := queue
      busOut := ([v.extractLsb' 8 8, v.extractLsb' 0 8] ++
        (List.range (k - 2)).map fun j => draw8 (s.draws + j)).take k
      draws := s.draws + (k - 2)
      rp := .idle }) ∧
    (s.rp = .idle → step s = .next { s with
      agenda := later
      reads := queue
      busOut := (List.range k).map fun j => draw8 (s.draws + j)
      draws := s.draws + k
      trace := s.trace ++ [.readIdle] })

/-- R261: a QUERY, then any steps with no QUERY, RESET, bus read or power-on reset among them, then a READ of two bytes:
the bytes are those of DEB at the QUERY, whatever scans ran between, and the slot is idle. -/
def Obligations.QueryThenReadLaw : Prop :=
  ∀ (pay : List Byte) (s s1 t : State) (n : Nat) (queue : List Nat), exec (.query pay) s = .next s1 →
    (∀ bytes ∈ s1.rx, keepsSlot bytes = true) → (∀ e ∈ s1.agenda, eventKeepsSlot e = true) →
    Sys2Proof.core.run n s1 = .next t → t.reads = 2 :: queue →
    ∃ u : State, busRead t = .next u ∧ u.busOut = [s.deb.extractLsb' 8 8, s.deb.extractLsb' 0 8] ∧ u.rp = .idle
end

