-- ==== Sys2Proof/Laws/Decode.lean ====
section
/-! SUPPORT. What the opcode map says of each opcode byte, and the accessors of a command. -/

namespace Sys2Proof

/-- A byte of R123 matches no row of R112. -/
theorem familyOf_of_unrecognized : ∀ b : Byte, isUnrecognizedByte b = true → familyOf b = .unrecognized := by
  decide +kernel

theorem familyOf_setLed (id : BitVec 4) : familyOf (0x00 ||| id.setWidth 8) = .setLed := by
  revert id; decide +kernel

theorem familyOf_display (on : Bool) : familyOf (0x40 ||| lowBit on) = .display := by
  cases on <;> decide +kernel

theorem familyOf_blink (on : Bool) : familyOf (0x50 ||| lowBit on) = .blink := by
  cases on <;> decide +kernel

theorem familyOf_blinkDelay (sel : Bool) : familyOf (0x60 ||| lowBit sel) = .blinkDelay := by
  cases sel <;> decide +kernel

theorem familyOf_colorMode (mode : Bool) : familyOf (0x80 ||| lowBit mode) = .colorMode := by
  cases mode <;> decide +kernel

theorem familyOf_setAll : familyOf 0x10 = .setAll := by decide +kernel
theorem familyOf_setEach : familyOf 0x20 = .setEach := by decide +kernel
theorem familyOf_setMask : familyOf 0x30 = .setMask := by decide +kernel
theorem familyOf_debounce : familyOf 0x70 = .debounce := by decide +kernel
theorem familyOf_clear : familyOf 0x90 = .clear := by decide +kernel
theorem familyOf_commit : familyOf 0xA0 = .commit := by decide +kernel
theorem familyOf_query : familyOf 0xB0 = .query := by decide +kernel
theorem familyOf_reset : familyOf 0xF0 = .reset := by decide +kernel

/-- The LED index survives the opcode byte (R113). -/
theorem paramNibble_setLed (id : BitVec 4) : paramNibble (0x00 ||| id.setWidth 8) = id := by
  revert id; decide +kernel

/-- The Boolean survives the opcode byte of each Boolean family (R113). -/
theorem paramBit_lowBit (on : Bool) :
    paramBit (0x40 ||| lowBit on) = on ∧ paramBit (0x50 ||| lowBit on) = on ∧ paramBit (0x60 ||| lowBit on) = on ∧
      paramBit (0x80 ||| lowBit on) = on := by
  cases on <;> decide +kernel

@[simp] theorem withPayload_payload (i : Instr) (pay : List Byte) : (i.withPayload pay).payload = pay := by
  cases i <;> rfl

@[simp] theorem withPayload_opcode (i : Instr) (pay : List Byte) : (i.withPayload pay).opcode = i.opcode := by
  cases i <;> rfl

@[simp] theorem withPayload_family (i : Instr) (pay : List Byte) : (i.withPayload pay).family = i.family := by
  cases i <;> rfl

@[simp] theorem decode_cons (op : Byte) (pay : List Byte) : decode (op :: pay) = .ok (decodeOp op pay) := rfl

end Sys2Proof
end

