-- ==== Sys2Proof/Laws/State.lean ====
section
/-! SUPPORT. One lemma per field per update: what each named update of the state leaves in each field. -/

namespace Sys2Proof.Machine

@[simp] theorem raise_params (r : Record) (s : State) : (raise r s).params = s.params := rfl
@[simp] theorem raise_color (r : Record) (s : State) : (raise r s).color = s.color := rfl
@[simp] theorem raise_mask (r : Record) (s : State) : (raise r s).mask = s.mask := rfl
@[simp] theorem raise_display (r : Record) (s : State) : (raise r s).display = s.display := rfl
@[simp] theorem raise_blinkEn (r : Record) (s : State) : (raise r s).blinkEn = s.blinkEn := rfl
@[simp] theorem raise_blinkOnMs (r : Record) (s : State) : (raise r s).blinkOnMs = s.blinkOnMs := rfl
@[simp] theorem raise_blinkOffMs (r : Record) (s : State) : (raise r s).blinkOffMs = s.blinkOffMs := rfl
@[simp] theorem raise_blinkPhase (r : Record) (s : State) : (raise r s).blinkPhase = s.blinkPhase := rfl
@[simp] theorem raise_blinkT0 (r : Record) (s : State) : (raise r s).blinkT0 = s.blinkT0 := rfl
@[simp] theorem raise_blinkRefresh (r : Record) (s : State) : (raise r s).blinkRefresh = s.blinkRefresh := rfl
@[simp] theorem raise_colorMode (r : Record) (s : State) : (raise r s).colorMode = s.colorMode := rfl
@[simp] theorem raise_table (r : Record) (s : State) : (raise r s).table = s.table := rfl
@[simp] theorem raise_armed (r : Record) (s : State) : (raise r s).armed = s.armed := rfl
@[simp] theorem raise_cursor (r : Record) (s : State) : (raise r s).cursor = s.cursor := rfl
@[simp] theorem raise_cmp (r : Record) (s : State) : (raise r s).cmp = s.cmp := rfl
@[simp] theorem raise_period (r : Record) (s : State) : (raise r s).period = s.period := rfl
@[simp] theorem raise_cnt (r : Record) (s : State) : (raise r s).cnt = s.cnt := rfl
@[simp] theorem raise_pin (r : Record) (s : State) : (raise r s).pin = s.pin := rfl
@[simp] theorem raise_irqPending (r : Record) (s : State) : (raise r s).irqPending = s.irqPending := rfl
@[simp] theorem raise_irqMasked (r : Record) (s : State) : (raise r s).irqMasked = s.irqMasked := rfl
@[simp] theorem raise_raw (r : Record) (s : State) : (raise r s).raw = s.raw := rfl
@[simp] theorem raise_deb (r : Record) (s : State) : (raise r s).deb = s.deb := rfl
@[simp] theorem raise_last (r : Record) (s : State) : (raise r s).last = s.last := rfl
@[simp] theorem raise_delay (r : Record) (s : State) : (raise r s).delay = s.delay := rfl
@[simp] theorem raise_rowDrive (r : Record) (s : State) : (raise r s).rowDrive = s.rowDrive := rfl
@[simp] theorem raise_rp (r : Record) (s : State) : (raise r s).rp = s.rp := rfl
@[simp] theorem raise_now (r : Record) (s : State) : (raise r s).now = s.now := rfl
@[simp] theorem raise_keys (r : Record) (s : State) : (raise r s).keys = s.keys := rfl
@[simp] theorem raise_trace (r : Record) (s : State) : (raise r s).trace = s.trace ++ [r] := rfl
@[simp] theorem raise_rx (r : Record) (s : State) : (raise r s).rx = s.rx := rfl
@[simp] theorem raise_reads (r : Record) (s : State) : (raise r s).reads = s.reads := rfl
@[simp] theorem raise_busOut (r : Record) (s : State) : (raise r s).busOut = s.busOut := rfl
@[simp] theorem raise_ret (r : Record) (s : State) : (raise r s).ret = s.ret := rfl
@[simp] theorem raise_agenda (r : Record) (s : State) : (raise r s).agenda = s.agenda := rfl
@[simp] theorem raise_draws (r : Record) (s : State) : (raise r s).draws = s.draws := rfl
@[simp] theorem raise_lastWritten (r : Record) (s : State) : (raise r s).lastWritten = s.lastWritten := rfl
@[simp] theorem raise_gap (r : Record) (s : State) : (raise r s).gap = s.gap := rfl

@[simp] theorem storeColor_params (id : BitVec 4) (c : Color) (s : State) : (storeColor id c s).params = s.params := rfl
@[simp] theorem storeColor_color (id : BitVec 4) (c : Color) (s : State) : (storeColor id c s).color = s.color.set id.toNat c id.isLt := rfl
@[simp] theorem storeColor_mask (id : BitVec 4) (c : Color) (s : State) : (storeColor id c s).mask = s.mask := rfl
@[simp] theorem storeColor_display (id : BitVec 4) (c : Color) (s : State) : (storeColor id c s).display = s.display := rfl
@[simp] theorem storeColor_blinkEn (id : BitVec 4) (c : Color) (s : State) : (storeColor id c s).blinkEn = s.blinkEn := rfl
@[simp] theorem storeColor_blinkOnMs (id : BitVec 4) (c : Color) (s : State) : (storeColor id c s).blinkOnMs = s.blinkOnMs := rfl
@[simp] theorem storeColor_blinkOffMs (id : BitVec 4) (c : Color) (s : State) : (storeColor id c s).blinkOffMs = s.blinkOffMs := rfl
@[simp] theorem storeColor_blinkPhase (id : BitVec 4) (c : Color) (s : State) : (storeColor id c s).blinkPhase = s.blinkPhase := rfl
@[simp] theorem storeColor_blinkT0 (id : BitVec 4) (c : Color) (s : State) : (storeColor id c s).blinkT0 = s.blinkT0 := rfl
@[simp] theorem storeColor_blinkRefresh (id : BitVec 4) (c : Color) (s : State) : (storeColor id c s).blinkRefresh = s.blinkRefresh := rfl
@[simp] theorem storeColor_colorMode (id : BitVec 4) (c : Color) (s : State) : (storeColor id c s).colorMode = s.colorMode := rfl
@[simp] theorem storeColor_table (id : BitVec 4) (c : Color) (s : State) : (storeColor id c s).table = s.table := rfl
@[simp] theorem storeColor_armed (id : BitVec 4) (c : Color) (s : State) : (storeColor id c s).armed = s.armed := rfl
@[simp] theorem storeColor_cursor (id : BitVec 4) (c : Color) (s : State) : (storeColor id c s).cursor = s.cursor := rfl
@[simp] theorem storeColor_cmp (id : BitVec 4) (c : Color) (s : State) : (storeColor id c s).cmp = s.cmp := rfl
@[simp] theorem storeColor_period (id : BitVec 4) (c : Color) (s : State) : (storeColor id c s).period = s.period := rfl
@[simp] theorem storeColor_cnt (id : BitVec 4) (c : Color) (s : State) : (storeColor id c s).cnt = s.cnt := rfl
@[simp] theorem storeColor_pin (id : BitVec 4) (c : Color) (s : State) : (storeColor id c s).pin = s.pin := rfl
@[simp] theorem storeColor_irqPending (id : BitVec 4) (c : Color) (s : State) : (storeColor id c s).irqPending = s.irqPending := rfl
@[simp] theorem storeColor_irqMasked (id : BitVec 4) (c : Color) (s : State) : (storeColor id c s).irqMasked = s.irqMasked := rfl
@[simp] theorem storeColor_raw (id : BitVec 4) (c : Color) (s : State) : (storeColor id c s).raw = s.raw := rfl
@[simp] theorem storeColor_deb (id : BitVec 4) (c : Color) (s : State) : (storeColor id c s).deb = s.deb := rfl
@[simp] theorem storeColor_last (id : BitVec 4) (c : Color) (s : State) : (storeColor id c s).last = s.last := rfl
@[simp] theorem storeColor_delay (id : BitVec 4) (c : Color) (s : State) : (storeColor id c s).delay = s.delay := rfl
@[simp] theorem storeColor_rowDrive (id : BitVec 4) (c : Color) (s : State) : (storeColor id c s).rowDrive = s.rowDrive := rfl
@[simp] theorem storeColor_rp (id : BitVec 4) (c : Color) (s : State) : (storeColor id c s).rp = s.rp := rfl
@[simp] theorem storeColor_now (id : BitVec 4) (c : Color) (s : State) : (storeColor id c s).now = s.now := rfl
@[simp] theorem storeColor_keys (id : BitVec 4) (c : Color) (s : State) : (storeColor id c s).keys = s.keys := rfl
@[simp] theorem storeColor_trace (id : BitVec 4) (c : Color) (s : State) : (storeColor id c s).trace = s.trace := rfl
@[simp] theorem storeColor_rx (id : BitVec 4) (c : Color) (s : State) : (storeColor id c s).rx = s.rx := rfl
@[simp] theorem storeColor_reads (id : BitVec 4) (c : Color) (s : State) : (storeColor id c s).reads = s.reads := rfl
@[simp] theorem storeColor_busOut (id : BitVec 4) (c : Color) (s : State) : (storeColor id c s).busOut = s.busOut := rfl
@[simp] theorem storeColor_ret (id : BitVec 4) (c : Color) (s : State) : (storeColor id c s).ret = s.ret := rfl
@[simp] theorem storeColor_agenda (id : BitVec 4) (c : Color) (s : State) : (storeColor id c s).agenda = s.agenda := rfl
@[simp] theorem storeColor_draws (id : BitVec 4) (c : Color) (s : State) : (storeColor id c s).draws = s.draws := rfl
@[simp] theorem storeColor_lastWritten (id : BitVec 4) (c : Color) (s : State) : (storeColor id c s).lastWritten = s.lastWritten := rfl
@[simp] theorem storeColor_gap (id : BitVec 4) (c : Color) (s : State) : (storeColor id c s).gap = s.gap := rfl

@[simp] theorem loadNextPulseWidth_params (w : U16) (s : State) : (loadNextPulseWidth w s).params = s.params := rfl
@[simp] theorem loadNextPulseWidth_color (w : U16) (s : State) : (loadNextPulseWidth w s).color = s.color := rfl
@[simp] theorem loadNextPulseWidth_mask (w : U16) (s : State) : (loadNextPulseWidth w s).mask = s.mask := rfl
@[simp] theorem loadNextPulseWidth_display (w : U16) (s : State) : (loadNextPulseWidth w s).display = s.display := rfl
@[simp] theorem loadNextPulseWidth_blinkEn (w : U16) (s : State) : (loadNextPulseWidth w s).blinkEn = s.blinkEn := rfl
@[simp] theorem loadNextPulseWidth_blinkOnMs (w : U16) (s : State) : (loadNextPulseWidth w s).blinkOnMs = s.blinkOnMs := rfl
@[simp] theorem loadNextPulseWidth_blinkOffMs (w : U16) (s : State) : (loadNextPulseWidth w s).blinkOffMs = s.blinkOffMs := rfl
@[simp] theorem loadNextPulseWidth_blinkPhase (w : U16) (s : State) : (loadNextPulseWidth w s).blinkPhase = s.blinkPhase := rfl
@[simp] theorem loadNextPulseWidth_blinkT0 (w : U16) (s : State) : (loadNextPulseWidth w s).blinkT0 = s.blinkT0 := rfl
@[simp] theorem loadNextPulseWidth_blinkRefresh (w : U16) (s : State) : (loadNextPulseWidth w s).blinkRefresh = s.blinkRefresh := rfl
@[simp] theorem loadNextPulseWidth_colorMode (w : U16) (s : State) : (loadNextPulseWidth w s).colorMode = s.colorMode := rfl
@[simp] theorem loadNextPulseWidth_table (w : U16) (s : State) : (loadNextPulseWidth w s).table = s.table := rfl
@[simp] theorem loadNextPulseWidth_armed (w : U16) (s : State) : (loadNextPulseWidth w s).armed = s.armed := rfl
@[simp] theorem loadNextPulseWidth_cursor (w : U16) (s : State) : (loadNextPulseWidth w s).cursor = s.cursor := rfl
@[simp] theorem loadNextPulseWidth_cmp (w : U16) (s : State) : (loadNextPulseWidth w s).cmp = w := rfl
@[simp] theorem loadNextPulseWidth_period (w : U16) (s : State) : (loadNextPulseWidth w s).period = s.period := rfl
@[simp] theorem loadNextPulseWidth_cnt (w : U16) (s : State) : (loadNextPulseWidth w s).cnt = s.cnt := rfl
@[simp] theorem loadNextPulseWidth_pin (w : U16) (s : State) : (loadNextPulseWidth w s).pin = s.pin := rfl
@[simp] theorem loadNextPulseWidth_irqPending (w : U16) (s : State) : (loadNextPulseWidth w s).irqPending = s.irqPending := rfl
@[simp] theorem loadNextPulseWidth_irqMasked (w : U16) (s : State) : (loadNextPulseWidth w s).irqMasked = s.irqMasked := rfl
@[simp] theorem loadNextPulseWidth_raw (w : U16) (s : State) : (loadNextPulseWidth w s).raw = s.raw := rfl
@[simp] theorem loadNextPulseWidth_deb (w : U16) (s : State) : (loadNextPulseWidth w s).deb = s.deb := rfl
@[simp] theorem loadNextPulseWidth_last (w : U16) (s : State) : (loadNextPulseWidth w s).last = s.last := rfl
@[simp] theorem loadNextPulseWidth_delay (w : U16) (s : State) : (loadNextPulseWidth w s).delay = s.delay := rfl
@[simp] theorem loadNextPulseWidth_rowDrive (w : U16) (s : State) : (loadNextPulseWidth w s).rowDrive = s.rowDrive := rfl
@[simp] theorem loadNextPulseWidth_rp (w : U16) (s : State) : (loadNextPulseWidth w s).rp = s.rp := rfl
@[simp] theorem loadNextPulseWidth_now (w : U16) (s : State) : (loadNextPulseWidth w s).now = s.now := rfl
@[simp] theorem loadNextPulseWidth_keys (w : U16) (s : State) : (loadNextPulseWidth w s).keys = s.keys := rfl
@[simp] theorem loadNextPulseWidth_trace (w : U16) (s : State) : (loadNextPulseWidth w s).trace = s.trace := rfl
@[simp] theorem loadNextPulseWidth_rx (w : U16) (s : State) : (loadNextPulseWidth w s).rx = s.rx := rfl
@[simp] theorem loadNextPulseWidth_reads (w : U16) (s : State) : (loadNextPulseWidth w s).reads = s.reads := rfl
@[simp] theorem loadNextPulseWidth_busOut (w : U16) (s : State) : (loadNextPulseWidth w s).busOut = s.busOut := rfl
@[simp] theorem loadNextPulseWidth_ret (w : U16) (s : State) : (loadNextPulseWidth w s).ret = s.ret := rfl
@[simp] theorem loadNextPulseWidth_agenda (w : U16) (s : State) : (loadNextPulseWidth w s).agenda = s.agenda := rfl
@[simp] theorem loadNextPulseWidth_draws (w : U16) (s : State) : (loadNextPulseWidth w s).draws = s.draws := rfl
@[simp] theorem loadNextPulseWidth_lastWritten (w : U16) (s : State) : (loadNextPulseWidth w s).lastWritten = s.lastWritten := rfl
@[simp] theorem loadNextPulseWidth_gap (w : U16) (s : State) : (loadNextPulseWidth w s).gap = s.gap := rfl

@[simp] theorem enterPeriodElapsed_params (s : State) : (enterPeriodElapsed s).params = s.params := rfl
@[simp] theorem enterPeriodElapsed_color (s : State) : (enterPeriodElapsed s).color = s.color := rfl
@[simp] theorem enterPeriodElapsed_mask (s : State) : (enterPeriodElapsed s).mask = s.mask := rfl
@[simp] theorem enterPeriodElapsed_display (s : State) : (enterPeriodElapsed s).display = s.display := rfl
@[simp] theorem enterPeriodElapsed_blinkEn (s : State) : (enterPeriodElapsed s).blinkEn = s.blinkEn := rfl
@[simp] theorem enterPeriodElapsed_blinkOnMs (s : State) : (enterPeriodElapsed s).blinkOnMs = s.blinkOnMs := rfl
@[simp] theorem enterPeriodElapsed_blinkOffMs (s : State) : (enterPeriodElapsed s).blinkOffMs = s.blinkOffMs := rfl
@[simp] theorem enterPeriodElapsed_blinkPhase (s : State) : (enterPeriodElapsed s).blinkPhase = s.blinkPhase := rfl
@[simp] theorem enterPeriodElapsed_blinkT0 (s : State) : (enterPeriodElapsed s).blinkT0 = s.blinkT0 := rfl
@[simp] theorem enterPeriodElapsed_blinkRefresh (s : State) : (enterPeriodElapsed s).blinkRefresh = s.blinkRefresh := rfl
@[simp] theorem enterPeriodElapsed_colorMode (s : State) : (enterPeriodElapsed s).colorMode = s.colorMode := rfl
@[simp] theorem enterPeriodElapsed_table (s : State) : (enterPeriodElapsed s).table = s.table := rfl
@[simp] theorem enterPeriodElapsed_armed (s : State) : (enterPeriodElapsed s).armed = s.armed := rfl
@[simp] theorem enterPeriodElapsed_cursor (s : State) : (enterPeriodElapsed s).cursor = s.cursor := rfl
@[simp] theorem enterPeriodElapsed_cmp (s : State) : (enterPeriodElapsed s).cmp = s.cmp := rfl
@[simp] theorem enterPeriodElapsed_period (s : State) : (enterPeriodElapsed s).period = s.period := rfl
@[simp] theorem enterPeriodElapsed_cnt (s : State) : (enterPeriodElapsed s).cnt = s.cnt := rfl
@[simp] theorem enterPeriodElapsed_pin (s : State) : (enterPeriodElapsed s).pin = s.pin := rfl
@[simp] theorem enterPeriodElapsed_irqPending (s : State) : (enterPeriodElapsed s).irqPending = false := rfl
@[simp] theorem enterPeriodElapsed_irqMasked (s : State) : (enterPeriodElapsed s).irqMasked = s.irqMasked := rfl
@[simp] theorem enterPeriodElapsed_raw (s : State) : (enterPeriodElapsed s).raw = s.raw := rfl
@[simp] theorem enterPeriodElapsed_deb (s : State) : (enterPeriodElapsed s).deb = s.deb := rfl
@[simp] theorem enterPeriodElapsed_last (s : State) : (enterPeriodElapsed s).last = s.last := rfl
@[simp] theorem enterPeriodElapsed_delay (s : State) : (enterPeriodElapsed s).delay = s.delay := rfl
@[simp] theorem enterPeriodElapsed_rowDrive (s : State) : (enterPeriodElapsed s).rowDrive = s.rowDrive := rfl
@[simp] theorem enterPeriodElapsed_rp (s : State) : (enterPeriodElapsed s).rp = s.rp := rfl
@[simp] theorem enterPeriodElapsed_now (s : State) : (enterPeriodElapsed s).now = s.now := rfl
@[simp] theorem enterPeriodElapsed_keys (s : State) : (enterPeriodElapsed s).keys = s.keys := rfl
@[simp] theorem enterPeriodElapsed_trace (s : State) : (enterPeriodElapsed s).trace = s.trace := rfl
@[simp] theorem enterPeriodElapsed_rx (s : State) : (enterPeriodElapsed s).rx = s.rx := rfl
@[simp] theorem enterPeriodElapsed_reads (s : State) : (enterPeriodElapsed s).reads = s.reads := rfl
@[simp] theorem enterPeriodElapsed_busOut (s : State) : (enterPeriodElapsed s).busOut = s.busOut := rfl
@[simp] theorem enterPeriodElapsed_ret (s : State) : (enterPeriodElapsed s).ret = s.ret := rfl
@[simp] theorem enterPeriodElapsed_agenda (s : State) : (enterPeriodElapsed s).agenda = s.agenda := rfl
@[simp] theorem enterPeriodElapsed_draws (s : State) : (enterPeriodElapsed s).draws = s.draws := rfl
@[simp] theorem enterPeriodElapsed_lastWritten (s : State) : (enterPeriodElapsed s).lastWritten = s.lastWritten := rfl
@[simp] theorem enterPeriodElapsed_gap (s : State) : (enterPeriodElapsed s).gap = s.gap := rfl

@[simp] theorem completeTransmission_params (s : State) : (completeTransmission s).params = s.params := rfl
@[simp] theorem completeTransmission_color (s : State) : (completeTransmission s).color = s.color := rfl
@[simp] theorem completeTransmission_mask (s : State) : (completeTransmission s).mask = s.mask := rfl
@[simp] theorem completeTransmission_display (s : State) : (completeTransmission s).display = s.display := rfl
@[simp] theorem completeTransmission_blinkEn (s : State) : (completeTransmission s).blinkEn = s.blinkEn := rfl
@[simp] theorem completeTransmission_blinkOnMs (s : State) : (completeTransmission s).blinkOnMs = s.blinkOnMs := rfl
@[simp] theorem completeTransmission_blinkOffMs (s : State) : (completeTransmission s).blinkOffMs = s.blinkOffMs := rfl
@[simp] theorem completeTransmission_blinkPhase (s : State) : (completeTransmission s).blinkPhase = s.blinkPhase := rfl
@[simp] theorem completeTransmission_blinkT0 (s : State) : (completeTransmission s).blinkT0 = s.blinkT0 := rfl
@[simp] theorem completeTransmission_blinkRefresh (s : State) : (completeTransmission s).blinkRefresh = s.blinkRefresh := rfl
@[simp] theorem completeTransmission_colorMode (s : State) : (completeTransmission s).colorMode = s.colorMode := rfl
@[simp] theorem completeTransmission_table (s : State) : (completeTransmission s).table = s.table := rfl
@[simp] theorem completeTransmission_armed (s : State) : (completeTransmission s).armed = false := rfl
@[simp] theorem completeTransmission_cursor (s : State) : (completeTransmission s).cursor = s.cursor := rfl
@[simp] theorem completeTransmission_cmp (s : State) : (completeTransmission s).cmp = s.cmp := rfl
@[simp] theorem completeTransmission_period (s : State) : (completeTransmission s).period = s.period := rfl
@[simp] theorem completeTransmission_cnt (s : State) : (completeTransmission s).cnt = s.cnt := rfl
@[simp] theorem completeTransmission_pin (s : State) : (completeTransmission s).pin = .low := rfl
@[simp] theorem completeTransmission_irqPending (s : State) : (completeTransmission s).irqPending = s.irqPending := rfl
@[simp] theorem completeTransmission_irqMasked (s : State) : (completeTransmission s).irqMasked = s.irqMasked := rfl
@[simp] theorem completeTransmission_raw (s : State) : (completeTransmission s).raw = s.raw := rfl
@[simp] theorem completeTransmission_deb (s : State) : (completeTransmission s).deb = s.deb := rfl
@[simp] theorem completeTransmission_last (s : State) : (completeTransmission s).last = s.last := rfl
@[simp] theorem completeTransmission_delay (s : State) : (completeTransmission s).delay = s.delay := rfl
@[simp] theorem completeTransmission_rowDrive (s : State) : (completeTransmission s).rowDrive = s.rowDrive := rfl
@[simp] theorem completeTransmission_rp (s : State) : (completeTransmission s).rp = s.rp := rfl
@[simp] theorem completeTransmission_now (s : State) : (completeTransmission s).now = s.now := rfl
@[simp] theorem completeTransmission_keys (s : State) : (completeTransmission s).keys = s.keys := rfl
@[simp] theorem completeTransmission_trace (s : State) : (completeTransmission s).trace = s.trace := rfl
@[simp] theorem completeTransmission_rx (s : State) : (completeTransmission s).rx = s.rx := rfl
@[simp] theorem completeTransmission_reads (s : State) : (completeTransmission s).reads = s.reads := rfl
@[simp] theorem completeTransmission_busOut (s : State) : (completeTransmission s).busOut = s.busOut := rfl
@[simp] theorem completeTransmission_ret (s : State) : (completeTransmission s).ret = s.ret := rfl
@[simp] theorem completeTransmission_agenda (s : State) : (completeTransmission s).agenda = s.agenda := rfl
@[simp] theorem completeTransmission_draws (s : State) : (completeTransmission s).draws = s.draws := rfl
@[simp] theorem completeTransmission_lastWritten (s : State) : (completeTransmission s).lastWritten = s.lastWritten := rfl
@[simp] theorem completeTransmission_gap (s : State) : (completeTransmission s).gap = some 0 := rfl

@[simp] theorem startTransmission_params (s : State) : (startTransmission s).params = s.params := by simp only [startTransmission, loadNextPulseWidth]
@[simp] theorem startTransmission_color (s : State) : (startTransmission s).color = s.color := by simp only [startTransmission, loadNextPulseWidth]
@[simp] theorem startTransmission_mask (s : State) : (startTransmission s).mask = s.mask := by simp only [startTransmission, loadNextPulseWidth]
@[simp] theorem startTransmission_display (s : State) : (startTransmission s).display = s.display := by simp only [startTransmission, loadNextPulseWidth]
@[simp] theorem startTransmission_blinkEn (s : State) : (startTransmission s).blinkEn = s.blinkEn := by simp only [startTransmission, loadNextPulseWidth]
@[simp] theorem startTransmission_blinkOnMs (s : State) : (startTransmission s).blinkOnMs = s.blinkOnMs := by simp only [startTransmission, loadNextPulseWidth]
@[simp] theorem startTransmission_blinkOffMs (s : State) : (startTransmission s).blinkOffMs = s.blinkOffMs := by simp only [startTransmission, loadNextPulseWidth]
@[simp] theorem startTransmission_blinkPhase (s : State) : (startTransmission s).blinkPhase = s.blinkPhase := by simp only [startTransmission, loadNextPulseWidth]
@[simp] theorem startTransmission_blinkT0 (s : State) : (startTransmission s).blinkT0 = s.blinkT0 := by simp only [startTransmission, loadNextPulseWidth]
@[simp] theorem startTransmission_blinkRefresh (s : State) : (startTransmission s).blinkRefresh = s.blinkRefresh := by simp only [startTransmission, loadNextPulseWidth]
@[simp] theorem startTransmission_colorMode (s : State) : (startTransmission s).colorMode = s.colorMode := by simp only [startTransmission, loadNextPulseWidth]
@[simp] theorem startTransmission_table (s : State) : (startTransmission s).table = buildTable s := by simp only [startTransmission, loadNextPulseWidth]
@[simp] theorem startTransmission_armed (s : State) : (startTransmission s).armed = true := by simp only [startTransmission, loadNextPulseWidth]
@[simp] theorem startTransmission_cursor (s : State) : (startTransmission s).cursor = 0 := by simp only [startTransmission, loadNextPulseWidth]
@[simp] theorem startTransmission_cmp (s : State) : (startTransmission s).cmp = (buildTable s)[0] := by simp only [startTransmission, loadNextPulseWidth]
@[simp] theorem startTransmission_period (s : State) : (startTransmission s).period = s.period := by simp only [startTransmission, loadNextPulseWidth]
@[simp] theorem startTransmission_cnt (s : State) : (startTransmission s).cnt = 0 := by simp only [startTransmission, loadNextPulseWidth]
@[simp] theorem startTransmission_pin (s : State) : (startTransmission s).pin = enablePin s.pin := by simp only [startTransmission, loadNextPulseWidth]
@[simp] theorem startTransmission_irqPending (s : State) : (startTransmission s).irqPending = s.irqPending := by simp only [startTransmission, loadNextPulseWidth]
@[simp] theorem startTransmission_irqMasked (s : State) : (startTransmission s).irqMasked = s.irqMasked := by simp only [startTransmission, loadNextPulseWidth]
@[simp] theorem startTransmission_raw (s : State) : (startTransmission s).raw = s.raw := by simp only [startTransmission, loadNextPulseWidth]
@[simp] theorem startTransmission_deb (s : State) : (startTransmission s).deb = s.deb := by simp only [startTransmission, loadNextPulseWidth]
@[simp] theorem startTransmission_last (s : State) : (startTransmission s).last = s.last := by simp only [startTransmission, loadNextPulseWidth]
@[simp] theorem startTransmission_delay (s : State) : (startTransmission s).delay = s.delay := by simp only [startTransmission, loadNextPulseWidth]
@[simp] theorem startTransmission_rowDrive (s : State) : (startTransmission s).rowDrive = s.rowDrive := by simp only [startTransmission, loadNextPulseWidth]
@[simp] theorem startTransmission_rp (s : State) : (startTransmission s).rp = s.rp := by simp only [startTransmission, loadNextPulseWidth]
@[simp] theorem startTransmission_now (s : State) : (startTransmission s).now = s.now := by simp only [startTransmission, loadNextPulseWidth]
@[simp] theorem startTransmission_keys (s : State) : (startTransmission s).keys = s.keys := by simp only [startTransmission, loadNextPulseWidth]
@[simp] theorem startTransmission_trace (s : State) : (startTransmission s).trace = s.trace := by simp only [startTransmission, loadNextPulseWidth]
@[simp] theorem startTransmission_rx (s : State) : (startTransmission s).rx = s.rx := by simp only [startTransmission, loadNextPulseWidth]
@[simp] theorem startTransmission_reads (s : State) : (startTransmission s).reads = s.reads := by simp only [startTransmission, loadNextPulseWidth]
@[simp] theorem startTransmission_busOut (s : State) : (startTransmission s).busOut = s.busOut := by simp only [startTransmission, loadNextPulseWidth]
@[simp] theorem startTransmission_ret (s : State) : (startTransmission s).ret = s.ret := by simp only [startTransmission, loadNextPulseWidth]
@[simp] theorem startTransmission_agenda (s : State) : (startTransmission s).agenda = s.agenda := by simp only [startTransmission, loadNextPulseWidth]
@[simp] theorem startTransmission_draws (s : State) : (startTransmission s).draws = s.draws := by simp only [startTransmission, loadNextPulseWidth]
@[simp] theorem startTransmission_lastWritten (s : State) : (startTransmission s).lastWritten = s.lastWritten := by simp only [startTransmission, loadNextPulseWidth]
@[simp] theorem startTransmission_gap (s : State) : (startTransmission s).gap = s.gap := by simp only [startTransmission, loadNextPulseWidth]

@[simp] theorem setBlinkState_params (on : Bool) (onMs offMs : U16) (s : State) : (setBlinkState on onMs offMs s).params = s.params := rfl
@[simp] theorem setBlinkState_color (on : Bool) (onMs offMs : U16) (s : State) : (setBlinkState on onMs offMs s).color = s.color := rfl
@[simp] theorem setBlinkState_mask (on : Bool) (onMs offMs : U16) (s : State) : (setBlinkState on onMs offMs s).mask = s.mask := rfl
@[simp] theorem setBlinkState_display (on : Bool) (onMs offMs : U16) (s : State) : (setBlinkState on onMs offMs s).display = s.display := rfl
@[simp] theorem setBlinkState_blinkEn (on : Bool) (onMs offMs : U16) (s : State) : (setBlinkState on onMs offMs s).blinkEn = on := rfl
@[simp] theorem setBlinkState_blinkOnMs (on : Bool) (onMs offMs : U16) (s : State) : (setBlinkState on onMs offMs s).blinkOnMs = onMs := rfl
@[simp] theorem setBlinkState_blinkOffMs (on : Bool) (onMs offMs : U16) (s : State) : (setBlinkState on onMs offMs s).blinkOffMs = offMs := rfl
@[simp] theorem setBlinkState_blinkPhase (on : Bool) (onMs offMs : U16) (s : State) : (setBlinkState on onMs offMs s).blinkPhase = .lit := rfl
@[simp] theorem setBlinkState_blinkT0 (on : Bool) (onMs offMs : U16) (s : State) : (setBlinkState on onMs offMs s).blinkT0 = if on then s.now else s.blinkT0 := rfl
@[simp] theorem setBlinkState_blinkRefresh (on : Bool) (onMs offMs : U16) (s : State) : (setBlinkState on onMs offMs s).blinkRefresh = false := rfl
@[simp] theorem setBlinkState_colorMode (on : Bool) (onMs offMs : U16) (s : State) : (setBlinkState on onMs offMs s).colorMode = s.colorMode := rfl
@[simp] theorem setBlinkState_table (on : Bool) (onMs offMs : U16) (s : State) : (setBlinkState on onMs offMs s).table = s.table := rfl
@[simp] theorem setBlinkState_armed (on : Bool) (onMs offMs : U16) (s : State) : (setBlinkState on onMs offMs s).armed = s.armed := rfl
@[simp] theorem setBlinkState_cursor (on : Bool) (onMs offMs : U16) (s : State) : (setBlinkState on onMs offMs s).cursor = s.cursor := rfl
@[simp] theorem setBlinkState_cmp (on : Bool) (onMs offMs : U16) (s : State) : (setBlinkState on onMs offMs s).cmp = s.cmp := rfl
@[simp] theorem setBlinkState_period (on : Bool) (onMs offMs : U16) (s : State) : (setBlinkState on onMs offMs s).period = s.period := rfl
@[simp] theorem setBlinkState_cnt (on : Bool) (onMs offMs : U16) (s : State) : (setBlinkState on onMs offMs s).cnt = s.cnt := rfl
@[simp] theorem setBlinkState_pin (on : Bool) (onMs offMs : U16) (s : State) : (setBlinkState on onMs offMs s).pin = s.pin := rfl
@[simp] theorem setBlinkState_irqPending (on : Bool) (onMs offMs : U16) (s : State) : (setBlinkState on onMs offMs s).irqPending = s.irqPending := rfl
@[simp] theorem setBlinkState_irqMasked (on : Bool) (onMs offMs : U16) (s : State) : (setBlinkState on onMs offMs s).irqMasked = s.irqMasked := rfl
@[simp] theorem setBlinkState_raw (on : Bool) (onMs offMs : U16) (s : State) : (setBlinkState on onMs offMs s).raw = s.raw := rfl
@[simp] theorem setBlinkState_deb (on : Bool) (onMs offMs : U16) (s : State) : (setBlinkState on onMs offMs s).deb = s.deb := rfl
@[simp] theorem setBlinkState_last (on : Bool) (onMs offMs : U16) (s : State) : (setBlinkState on onMs offMs s).last = s.last := rfl
@[simp] theorem setBlinkState_delay (on : Bool) (onMs offMs : U16) (s : State) : (setBlinkState on onMs offMs s).delay = s.delay := rfl
@[simp] theorem setBlinkState_rowDrive (on : Bool) (onMs offMs : U16) (s : State) : (setBlinkState on onMs offMs s).rowDrive = s.rowDrive := rfl
@[simp] theorem setBlinkState_rp (on : Bool) (onMs offMs : U16) (s : State) : (setBlinkState on onMs offMs s).rp = s.rp := rfl
@[simp] theorem setBlinkState_now (on : Bool) (onMs offMs : U16) (s : State) : (setBlinkState on onMs offMs s).now = s.now := rfl
@[simp] theorem setBlinkState_keys (on : Bool) (onMs offMs : U16) (s : State) : (setBlinkState on onMs offMs s).keys = s.keys := rfl
@[simp] theorem setBlinkState_trace (on : Bool) (onMs offMs : U16) (s : State) : (setBlinkState on onMs offMs s).trace = s.trace := rfl
@[simp] theorem setBlinkState_rx (on : Bool) (onMs offMs : U16) (s : State) : (setBlinkState on onMs offMs s).rx = s.rx := rfl
@[simp] theorem setBlinkState_reads (on : Bool) (onMs offMs : U16) (s : State) : (setBlinkState on onMs offMs s).reads = s.reads := rfl
@[simp] theorem setBlinkState_busOut (on : Bool) (onMs offMs : U16) (s : State) : (setBlinkState on onMs offMs s).busOut = s.busOut := rfl
@[simp] theorem setBlinkState_ret (on : Bool) (onMs offMs : U16) (s : State) : (setBlinkState on onMs offMs s).ret = s.ret := rfl
@[simp] theorem setBlinkState_agenda (on : Bool) (onMs offMs : U16) (s : State) : (setBlinkState on onMs offMs s).agenda = s.agenda := rfl
@[simp] theorem setBlinkState_draws (on : Bool) (onMs offMs : U16) (s : State) : (setBlinkState on onMs offMs s).draws = s.draws := rfl
@[simp] theorem setBlinkState_lastWritten (on : Bool) (onMs offMs : U16) (s : State) : (setBlinkState on onMs offMs s).lastWritten = s.lastWritten := rfl
@[simp] theorem setBlinkState_gap (on : Bool) (onMs offMs : U16) (s : State) : (setBlinkState on onMs offMs s).gap = s.gap := rfl

@[simp] theorem resetConfiguration_params (s : State) : (resetConfiguration s).params = s.params := rfl
@[simp] theorem resetConfiguration_color (s : State) : (resetConfiguration s).color = s.params.resetColor := rfl
@[simp] theorem resetConfiguration_mask (s : State) : (resetConfiguration s).mask = s.params.resetMask := rfl
@[simp] theorem resetConfiguration_display (s : State) : (resetConfiguration s).display = s.params.resetDisplay := rfl
@[simp] theorem resetConfiguration_blinkEn (s : State) : (resetConfiguration s).blinkEn = false := rfl
@[simp] theorem resetConfiguration_blinkOnMs (s : State) : (resetConfiguration s).blinkOnMs = s.params.resetBlinkOnMs := rfl
@[simp] theorem resetConfiguration_blinkOffMs (s : State) : (resetConfiguration s).blinkOffMs = s.params.resetBlinkOffMs := rfl
@[simp] theorem resetConfiguration_blinkPhase (s : State) : (resetConfiguration s).blinkPhase = .lit := rfl
@[simp] theorem resetConfiguration_blinkT0 (s : State) : (resetConfiguration s).blinkT0 = s.blinkT0 := rfl
@[simp] theorem resetConfiguration_blinkRefresh (s : State) : (resetConfiguration s).blinkRefresh = false := rfl
@[simp] theorem resetConfiguration_colorMode (s : State) : (resetConfiguration s).colorMode = s.params.resetColorMode := rfl
@[simp] theorem resetConfiguration_table (s : State) : (resetConfiguration s).table = s.table := rfl
@[simp] theorem resetConfiguration_armed (s : State) : (resetConfiguration s).armed = s.armed := rfl
@[simp] theorem resetConfiguration_cursor (s : State) : (resetConfiguration s).cursor = s.cursor := rfl
@[simp] theorem resetConfiguration_cmp (s : State) : (resetConfiguration s).cmp = s.cmp := rfl
@[simp] theorem resetConfiguration_period (s : State) : (resetConfiguration s).period = s.period := rfl
@[simp] theorem resetConfiguration_cnt (s : State) : (resetConfiguration s).cnt = s.cnt := rfl
@[simp] theorem resetConfiguration_pin (s : State) : (resetConfiguration s).pin = s.pin := rfl
@[simp] theorem resetConfiguration_irqPending (s : State) : (resetConfiguration s).irqPending = s.irqPending := rfl
@[simp] theorem resetConfiguration_irqMasked (s : State) : (resetConfiguration s).irqMasked = s.irqMasked := rfl
@[simp] theorem resetConfiguration_raw (s : State) : (resetConfiguration s).raw = s.raw := rfl
@[simp] theorem resetConfiguration_deb (s : State) : (resetConfiguration s).deb = s.deb := rfl
@[simp] theorem resetConfiguration_last (s : State) : (resetConfiguration s).last = s.last := rfl
@[simp] theorem resetConfiguration_delay (s : State) : (resetConfiguration s).delay = s.params.resetDebounceMs := rfl
@[simp] theorem resetConfiguration_rowDrive (s : State) : (resetConfiguration s).rowDrive = s.rowDrive := rfl
@[simp] theorem resetConfiguration_rp (s : State) : (resetConfiguration s).rp = .idle := rfl
@[simp] theorem resetConfiguration_now (s : State) : (resetConfiguration s).now = s.now := rfl
@[simp] theorem resetConfiguration_keys (s : State) : (resetConfiguration s).keys = s.keys := rfl
@[simp] theorem resetConfiguration_trace (s : State) : (resetConfiguration s).trace = s.trace := rfl
@[simp] theorem resetConfiguration_rx (s : State) : (resetConfiguration s).rx = s.rx := rfl
@[simp] theorem resetConfiguration_reads (s : State) : (resetConfiguration s).reads = s.reads := rfl
@[simp] theorem resetConfiguration_busOut (s : State) : (resetConfiguration s).busOut = s.busOut := rfl
@[simp] theorem resetConfiguration_ret (s : State) : (resetConfiguration s).ret = s.ret := rfl
@[simp] theorem resetConfiguration_agenda (s : State) : (resetConfiguration s).agenda = s.agenda := rfl
@[simp] theorem resetConfiguration_draws (s : State) : (resetConfiguration s).draws = s.draws := rfl
@[simp] theorem resetConfiguration_lastWritten (s : State) : (resetConfiguration s).lastWritten = s.lastWritten := rfl
@[simp] theorem resetConfiguration_gap (s : State) : (resetConfiguration s).gap = s.gap := rfl

@[simp] theorem captureButtons_params (s : State) : (captureButtons s).params = s.params := rfl
@[simp] theorem captureButtons_color (s : State) : (captureButtons s).color = s.color := rfl
@[simp] theorem captureButtons_mask (s : State) : (captureButtons s).mask = s.mask := rfl
@[simp] theorem captureButtons_display (s : State) : (captureButtons s).display = s.display := rfl
@[simp] theorem captureButtons_blinkEn (s : State) : (captureButtons s).blinkEn = s.blinkEn := rfl
@[simp] theorem captureButtons_blinkOnMs (s : State) : (captureButtons s).blinkOnMs = s.blinkOnMs := rfl
@[simp] theorem captureButtons_blinkOffMs (s : State) : (captureButtons s).blinkOffMs = s.blinkOffMs := rfl
@[simp] theorem captureButtons_blinkPhase (s : State) : (captureButtons s).blinkPhase = s.blinkPhase := rfl
@[simp] theorem captureButtons_blinkT0 (s : State) : (captureButtons s).blinkT0 = s.blinkT0 := rfl
@[simp] theorem captureButtons_blinkRefresh (s : State) : (captureButtons s).blinkRefresh = s.blinkRefresh := rfl
@[simp] theorem captureButtons_colorMode (s : State) : (captureButtons s).colorMode = s.colorMode := rfl
@[simp] theorem captureButtons_table (s : State) : (captureButtons s).table = s.table := rfl
@[simp] theorem captureButtons_armed (s : State) : (captureButtons s).armed = s.armed := rfl
@[simp] theorem captureButtons_cursor (s : State) : (captureButtons s).cursor = s.cursor := rfl
@[simp] theorem captureButtons_cmp (s : State) : (captureButtons s).cmp = s.cmp := rfl
@[simp] theorem captureButtons_period (s : State) : (captureButtons s).period = s.period := rfl
@[simp] theorem captureButtons_cnt (s : State) : (captureButtons s).cnt = s.cnt := rfl
@[simp] theorem captureButtons_pin (s : State) : (captureButtons s).pin = s.pin := rfl
@[simp] theorem captureButtons_irqPending (s : State) : (captureButtons s).irqPending = s.irqPending := rfl
@[simp] theorem captureButtons_irqMasked (s : State) : (captureButtons s).irqMasked = s.irqMasked := rfl
@[simp] theorem captureButtons_raw (s : State) : (captureButtons s).raw = s.raw := rfl
@[simp] theorem captureButtons_deb (s : State) : (captureButtons s).deb = s.deb := rfl
@[simp] theorem captureButtons_last (s : State) : (captureButtons s).last = s.last := rfl
@[simp] theorem captureButtons_delay (s : State) : (captureButtons s).delay = s.delay := rfl
@[simp] theorem captureButtons_rowDrive (s : State) : (captureButtons s).rowDrive = s.rowDrive := rfl
@[simp] theorem captureButtons_rp (s : State) : (captureButtons s).rp = .buttons s.deb := rfl
@[simp] theorem captureButtons_now (s : State) : (captureButtons s).now = s.now := rfl
@[simp] theorem captureButtons_keys (s : State) : (captureButtons s).keys = s.keys := rfl
@[simp] theorem captureButtons_trace (s : State) : (captureButtons s).trace = s.trace := rfl
@[simp] theorem captureButtons_rx (s : State) : (captureButtons s).rx = s.rx := rfl
@[simp] theorem captureButtons_reads (s : State) : (captureButtons s).reads = s.reads := rfl
@[simp] theorem captureButtons_busOut (s : State) : (captureButtons s).busOut = s.busOut := rfl
@[simp] theorem captureButtons_ret (s : State) : (captureButtons s).ret = s.ret := rfl
@[simp] theorem captureButtons_agenda (s : State) : (captureButtons s).agenda = s.agenda := rfl
@[simp] theorem captureButtons_draws (s : State) : (captureButtons s).draws = s.draws := rfl
@[simp] theorem captureButtons_lastWritten (s : State) : (captureButtons s).lastWritten = s.lastWritten := rfl
@[simp] theorem captureButtons_gap (s : State) : (captureButtons s).gap = s.gap := rfl

@[simp] theorem debounce_params (t : U32) (raw : U16) (s : State) : (debounce t raw s).params = s.params := rfl
@[simp] theorem debounce_color (t : U32) (raw : U16) (s : State) : (debounce t raw s).color = s.color := rfl
@[simp] theorem debounce_mask (t : U32) (raw : U16) (s : State) : (debounce t raw s).mask = s.mask := rfl
@[simp] theorem debounce_display (t : U32) (raw : U16) (s : State) : (debounce t raw s).display = s.display := rfl
@[simp] theorem debounce_blinkEn (t : U32) (raw : U16) (s : State) : (debounce t raw s).blinkEn = s.blinkEn := rfl
@[simp] theorem debounce_blinkOnMs (t : U32) (raw : U16) (s : State) : (debounce t raw s).blinkOnMs = s.blinkOnMs := rfl
@[simp] theorem debounce_blinkOffMs (t : U32) (raw : U16) (s : State) : (debounce t raw s).blinkOffMs = s.blinkOffMs := rfl
@[simp] theorem debounce_blinkPhase (t : U32) (raw : U16) (s : State) : (debounce t raw s).blinkPhase = s.blinkPhase := rfl
@[simp] theorem debounce_blinkT0 (t : U32) (raw : U16) (s : State) : (debounce t raw s).blinkT0 = s.blinkT0 := rfl
@[simp] theorem debounce_blinkRefresh (t : U32) (raw : U16) (s : State) : (debounce t raw s).blinkRefresh = s.blinkRefresh := rfl
@[simp] theorem debounce_colorMode (t : U32) (raw : U16) (s : State) : (debounce t raw s).colorMode = s.colorMode := rfl
@[simp] theorem debounce_table (t : U32) (raw : U16) (s : State) : (debounce t raw s).table = s.table := rfl
@[simp] theorem debounce_armed (t : U32) (raw : U16) (s : State) : (debounce t raw s).armed = s.armed := rfl
@[simp] theorem debounce_cursor (t : U32) (raw : U16) (s : State) : (debounce t raw s).cursor = s.cursor := rfl
@[simp] theorem debounce_cmp (t : U32) (raw : U16) (s : State) : (debounce t raw s).cmp = s.cmp := rfl
@[simp] theorem debounce_period (t : U32) (raw : U16) (s : State) : (debounce t raw s).period = s.period := rfl
@[simp] theorem debounce_cnt (t : U32) (raw : U16) (s : State) : (debounce t raw s).cnt = s.cnt := rfl
@[simp] theorem debounce_pin (t : U32) (raw : U16) (s : State) : (debounce t raw s).pin = s.pin := rfl
@[simp] theorem debounce_irqPending (t : U32) (raw : U16) (s : State) : (debounce t raw s).irqPending = s.irqPending := rfl
@[simp] theorem debounce_irqMasked (t : U32) (raw : U16) (s : State) : (debounce t raw s).irqMasked = s.irqMasked := rfl
@[simp] theorem debounce_raw (t : U32) (raw : U16) (s : State) : (debounce t raw s).raw = raw := rfl
@[simp] theorem debounce_deb (t : U32) (raw : U16) (s : State) : (debounce t raw s).deb = newDeb t raw s := rfl
@[simp] theorem debounce_last (t : U32) (raw : U16) (s : State) : (debounce t raw s).last = newLast t raw s := rfl
@[simp] theorem debounce_delay (t : U32) (raw : U16) (s : State) : (debounce t raw s).delay = s.delay := rfl
@[simp] theorem debounce_rowDrive (t : U32) (raw : U16) (s : State) : (debounce t raw s).rowDrive = s.rowDrive := rfl
@[simp] theorem debounce_rp (t : U32) (raw : U16) (s : State) : (debounce t raw s).rp = s.rp := rfl
@[simp] theorem debounce_now (t : U32) (raw : U16) (s : State) : (debounce t raw s).now = s.now := rfl
@[simp] theorem debounce_keys (t : U32) (raw : U16) (s : State) : (debounce t raw s).keys = s.keys := rfl
@[simp] theorem debounce_trace (t : U32) (raw : U16) (s : State) : (debounce t raw s).trace = s.trace := rfl
@[simp] theorem debounce_rx (t : U32) (raw : U16) (s : State) : (debounce t raw s).rx = s.rx := rfl
@[simp] theorem debounce_reads (t : U32) (raw : U16) (s : State) : (debounce t raw s).reads = s.reads := rfl
@[simp] theorem debounce_busOut (t : U32) (raw : U16) (s : State) : (debounce t raw s).busOut = s.busOut := rfl
@[simp] theorem debounce_ret (t : U32) (raw : U16) (s : State) : (debounce t raw s).ret = .changed (newDeb t raw s != s.deb) := rfl
@[simp] theorem debounce_agenda (t : U32) (raw : U16) (s : State) : (debounce t raw s).agenda = s.agenda := rfl
@[simp] theorem debounce_draws (t : U32) (raw : U16) (s : State) : (debounce t raw s).draws = s.draws := rfl
@[simp] theorem debounce_lastWritten (t : U32) (raw : U16) (s : State) : (debounce t raw s).lastWritten = s.lastWritten ||| (raw ^^^ s.raw) := rfl
@[simp] theorem debounce_gap (t : U32) (raw : U16) (s : State) : (debounce t raw s).gap = s.gap := rfl

end Sys2Proof.Machine
end

