-- ==== Sys2Proof/Laws/Ops.lean ====
section
/-! SUPPORT. For each shared operation, once, everything it can do: cited in place of unfolding it. -/

namespace Sys2Proof.Machine

/-! ### Outcomes -/

@[simp] theorem thenState_next (s : State) (f : State → State) : thenState (.next s) f = .next (f s) := rfl
@[simp] theorem thenState_fault (r : Fault) (f : State → State) : thenState (.fault r) f = .fault r := rfl
@[simp] theorem thenState_refused (r : Refusal) (f : State → State) : thenState (.refused r) f = .refused r := rfl

theorem thenState_eq_next {o : Out} {f : State → State} {t : State} :
    thenState o f = .next t ↔ ∃ u, o = .next u ∧ f u = t := by
  cases o <;> simp

theorem thenState_eq_fault {o : Out} {f : State → State} {r : Fault} : thenState o f = .fault r ↔ o = .fault r := by
  cases o <;> simp

@[simp] theorem thenRecord_next (s : State) (more : List Record) :
    thenRecord (.next s) more = .next { s with trace := s.trace ++ more } := rfl
@[simp] theorem thenRecord_fault (r : Fault) (more : List Record) :
    thenRecord (.fault r) more = .fault (faultThenRecords r more) := rfl
@[simp] theorem thenRecord_refused (r : Refusal) (more : List Record) :
    thenRecord (.refused r) more = .refused r := rfl

theorem thenRecord_eq_next {o : Out} {more : List Record} {t : State} :
    thenRecord o more = .next t ↔ ∃ u, o = .next u ∧ { u with trace := u.trace ++ more } = t := by
  cases o <;> simp

theorem thenRecord_eq_fault {o : Out} {more : List Record} {r : Fault} :
    thenRecord o more = .fault r ↔ ∃ q, o = .fault q ∧ faultThenRecords q more = r := by
  cases o <;> simp

/-- A fault's trace with the later records at its end. -/
@[simp] theorem faultTrace_faultThenRecords (r : Fault) (more : List Record) :
    faultTrace (faultThenRecords r more) = faultTrace r ++ more := by
  cases r <;> rfl

theorem withId_of_lt {id : Nat} (h : id < 16) (f : BitVec 4 → Out) : withId id f = f (BitVec.ofNat 4 id) := if_pos h

theorem withId_of_ge {id : Nat} (h : 16 ≤ id) (f : BitVec 4 → Out) : withId id f = .refused (.idOutOfRange id) :=
  if_neg (by omega)

/-- What `withId` can answer: its body at the id, or a refusal. -/
theorem withId_eq_next {id : Nat} {f : BitVec 4 → Out} {t : State} (h : withId id f = .next t) :
    ∃ i, f i = .next t := by
  unfold withId at h
  split at h
  · exact ⟨_, h⟩
  · cases h

theorem withId_eq_fault {id : Nat} {f : BitVec 4 → Out} {r : Fault} (h : withId id f = .fault r) :
    ∃ i, f i = .fault r := by
  unfold withId at h
  split at h
  · exact ⟨_, h⟩
  · cases h

/-! ### Payloads (R231 to R233) -/

theorem busBytes_length (L : Nat) (pay : List Byte) (s : State) : (busBytes L pay s).length = L := by
  simp only [busBytes, List.length_append, List.length_take, List.length_map, List.length_range]
  omega

/-- Byte k of a read payload is `BusByte(k + 1)` (R232). -/
theorem byteAt_busBytes {L k : Nat} (hk : k < L) (pay : List Byte) (s : State) :
    byteAt (busBytes L pay s) k = busByte pay s k := by
  unfold byteAt busBytes busByte
  rw [List.getD_eq_getElem?_getD]
  split
  · rename_i h
    rw [List.getElem?_append_left (by simp; omega)]
    simp [hk, h]
  · rename_i h
    rw [List.getElem?_append_right (by simp; omega)]
    have hlen : (pay.take L).length = pay.length := by simp; omega
    rw [hlen, List.getElem?_map, List.getElem?_range (by omega)]
    rfl

/-- Reading a payload takes one draw per missing byte and records an underrun once (R232). -/
theorem readPayload_eq (op : Byte) (L : Nat) (pay : List Byte) (s : State) :
    readPayload op L pay s = { s with
      draws := s.draws + (L - pay.length)
      trace := s.trace ++ if pay.length < L then [.payloadUnderrun op pay.length L] else [] } := by
  unfold readPayload
  split
  · rfl
  · have h0 : L - pay.length = 0 := by omega
    simp [h0]

/-- What a command does besides its effect: the payload is read before it and the surplus dropped after (R231). -/
theorem runCommand_eq (i : Instr) (effect : List Byte → State → Out) (s : State) :
    runCommand i effect s =
      thenRecord (effect (busBytes (requiredLen i s) i.payload s)
          (readPayload i.opcode (requiredLen i s) i.payload s))
        (excessRecords i.opcode (requiredLen i s) i.payload) := rfl

/-- The effect of each command on its payload bytes, as `exec` runs it. -/
def commandEffect : Instr → List Byte → State → Out
  | .setLed id _, bytes, t => .next (setLedEffect id bytes t)
  | .setAll _, bytes, t => .next { t with color := Vector.replicate 16 (colorGroup t.colorMode bytes 0) }
  | .setEach _, bytes, t => .next { t with color := Vector.ofFn fun k => colorGroup t.colorMode bytes k.val }
  | .setMask _, bytes, t => .next (setMask16 (payload16 bytes) t)
  | .display on _, _, t => .next (setDisplayState on t)
  | .blink on _, _, t => .next (setBlinkState on t.blinkOnMs t.blinkOffMs t)
  | .blinkDelay sel _, bytes, t => .next (blinkDelayEffect sel (payload16 bytes) t)
  | .debounce _, bytes, t => .next (setDebounceDelay (byteAt bytes 0) t)
  | .colorMode mode _, _, t => .next { t with colorMode := if mode then .rgb24 else .packed8 }
  | .clear _, _, t => .next { t with color := Vector.replicate 16 black }
  | .commit _, _, t => arm t
  | .query _, _, t => .next (captureButtons t)
  | .reset _, _, t => .next (resetConfiguration t)
  | .unrecognized op _, _, t => .next (raise (.unrecognizedOpcode op) t)

/-- Every command is DISPATCH of its effect (R231). -/
theorem exec_eq_runCommand (i : Instr) (s : State) : exec i s = runCommand i (commandEffect i) s := by
  cases i <;> rfl

/-! ### Arm, the interrupt and the pulse generator -/

/-- LATCH_LOW_MIN is kept, or not given, or nothing completed yet (R342). -/
theorem latchTooShort_eq_false {s : State} :
    latchTooShort s = false ↔
      ∀ least ticks, s.params.latchLowMin = some least → s.gap = some ticks → least ≤ ticks := by
  unfold latchTooShort
  cases s.params.latchLowMin <;> cases s.gap <;> simp

/-- What an arm that answers a state has done: nothing but the record while busy, else the start (R160). -/
theorem arm_cases {s t : State} (h : arm s = .next t) :
    s.period ≠ none ∧
      ((s.armed = true ∧ t = raise (.rearmBusy s.cursor) s) ∨
        (s.armed = false ∧ latchTooShort s = false ∧ t = startTransmission s)) := by
  unfold arm at h
  split at h
  · cases h
  · rename_i hp
    refine ⟨hp, ?_⟩
    split at h
    · rename_i ha
      exact .inl ⟨ha, by injection h with h; exact h.symm⟩
    · rename_i ha
      split at h
      · cases h
      · rename_i hl
        exact .inr ⟨by simpa using ha, by simpa using hl, by injection h with h; exact h.symm⟩

/-- When an arm ends in a model fault, and what the fault carries. -/
theorem arm_fault {s : State} {r : Fault} (h : arm s = .fault r) :
    (s.period = none ∧ r = .notConfigured (s.trace ++ [.notConfigured])) ∨
      (s.armed = false ∧ latchTooShort s = true ∧ r = .latchTooShort (s.trace ++ [.latchTooShort])) := by
  unfold arm at h
  split at h
  · rename_i hp
    exact .inl ⟨hp, by injection h with h; exact h.symm⟩
  · split at h
    · cases h
    · rename_i ha
      split at h
      · rename_i hl
        exact .inr ⟨by simpa using ha, hl, by injection h with h; exact h.symm⟩
      · cases h

/-- What the body of PERIOD_ELAPSED can do (R163). -/
theorem advanceCursor_cases {s t : State} (h : advanceCursor s = .next t) :
    (s.cursor = 383 ∧ t = completeTransmission { s with cursor := 384 }) ∨
      ∃ hc : s.cursor.toNat + 1 < 384,
        t = loadNextPulseWidth s.table[s.cursor.toNat + 1] { s with cursor := s.cursor + 1 } := by
  unfold advanceCursor at h
  simp only at h
  split at h
  · rename_i hc
    refine .inl ⟨by bv_omega, ?_⟩
    injection h with h
    rw [← h, hc]
  · split at h
    · rename_i hlt
      exact .inr ⟨hlt, by injection h with h; exact h.symm⟩
    · cases h

theorem advanceCursor_not_fault (s : State) (r : Fault) : advanceCursor s ≠ .fault r := by
  unfold advanceCursor
  simp only
  split
  · simp
  · split <;> simp

/-- PERIOD_ELAPSED that answers a state was enabled and in time, and did its body with the signal cleared (R163, R284). -/
theorem periodElapsed_cases {s t : State} (h : periodElapsed s = .next t) :
    s.armed = true ∧ s.irqPending = true ∧ s.irqMasked = false ∧ s.cnt.toNat ≤ s.params.isrDeadline ∧
      advanceCursor (enterPeriodElapsed s) = .next t := by
  unfold periodElapsed at h
  split at h
  · cases h
  · rename_i he
    split at h
    · cases h
    · rename_i hd
      rw [thenState_eq_next] at h
      obtain ⟨u, hu, rfl⟩ := h
      simp only [periodElapsedEnabled, Bool.not_eq_true', Bool.and_eq_true, Bool.not_eq_false]
        at he
      exact ⟨he.1.1, he.1.2, he.2, by omega, hu⟩

/-- An arm while configured, idle and not too soon is accepted (R160, R342). -/
theorem arm_runs {s : State} (hp : s.period ≠ none) (ha : s.armed = false)
    (hg : ∀ least ticks, s.params.latchLowMin = some least → s.gap = some ticks → least ≤ ticks) :
    arm s = .next (startTransmission s) := by
  unfold arm
  rw [if_neg hp, ha, latchTooShort_eq_false.2 hg, if_neg (by decide), if_neg (by decide)]

/-- The end of a bit period whose predecessor was served signals PERIOD_ELAPSED (R284). -/
theorem periodEnd_runs {s : State} {p : U16} (ha : s.armed = true) (hp : s.period = some p)
    (hi : s.irqPending = false) :
    periodEnd s = .next { s with pin := tickLevel s (p - 1), cnt := 0, irqPending := true } := by
  have h1 : periodEnd s = signalPeriodElapsed { s with pin := tickLevel s (p - 1) } := by
    unfold periodEnd
    rw [ha, if_neg (by decide)]
    simp only [hp]
  rw [h1]
  exact if_neg (by simp [hi])

/-- Before the last bit the interrupt loads the next compare value (R163). -/
theorem advanceCursor_of_lt (s : State) (h : s.cursor.toNat + 1 < 384) :
    advanceCursor s = .next { s with cursor := s.cursor + 1, cmp := s.table[s.cursor.toNat + 1] } := by
  have hne : ¬ s.cursor + 1 = 384 := by bv_omega
  exact (if_neg hne).trans (dif_pos h)

/-- After the last bit the interrupt completes (R163). -/
theorem advanceCursor_of_last (s : State) (h : s.cursor = 383) :
    advanceCursor s = .next (completeTransmission { s with cursor := 384 }) := by
  have he : s.cursor + 1 = 384 := by rw [h]; rfl
  have : advanceCursor s = .next (completeTransmission { s with cursor := s.cursor + 1 }) := if_pos he
  rw [this, he]

/-- PERIOD_ELAPSED taken in time runs its body (R163, R284, R340). -/
theorem periodElapsed_runs (s : State) (he : periodElapsedEnabled s = true) (hd : s.cnt.toNat ≤ s.params.isrDeadline) :
    periodElapsed s = advanceCursor (enterPeriodElapsed s) := by
  unfold periodElapsed
  rw [he, if_neg (by decide), if_neg (Nat.not_lt.2 hd)]
  cases advanceCursor (enterPeriodElapsed s) <;> rfl
/-- A PERIOD_ELAPSED that faults was late (R340). -/
theorem periodElapsed_fault {s : State} {r : Fault} (h : periodElapsed s = .fault r) :
    r = .isrDeadline (s.trace ++ [.isrDeadline]) := by
  unfold periodElapsed at h
  split at h
  · cases h
  · split at h
    · injection h with h; exact h.symm
    · exact absurd (thenState_eq_fault.1 h) (advanceCursor_not_fault _ _)

/-- The signal at the end of a period (R284): a new period, pending, unless the last signal was never served. -/
theorem signalPeriodElapsed_cases {s t : State} (h : signalPeriodElapsed s = .next t) :
    s.irqPending = false ∧ t = { s with cnt := 0, irqPending := true } := by
  unfold signalPeriodElapsed at h
  split at h
  · cases h
  · rename_i hp
    exact ⟨by simpa using hp, by injection h with h; exact h.symm⟩

theorem signalPeriodElapsed_fault {s : State} {r : Fault} (h : signalPeriodElapsed s = .fault r) :
    r = .isrDeadline (s.trace ++ [.isrDeadline]) := by
  unfold signalPeriodElapsed at h
  split at h
  · injection h with h; exact h.symm
  · cases h

/-- What a timer tick can do (R166). -/
theorem timerTick_cases {s t : State} (h : timerTick s = .next t) :
    (s.armed = false ∧ t = { s with gap := s.gap.map (· + 1) }) ∨
      ∃ p, s.armed = true ∧ s.period = some p ∧
        ((s.cnt + 1 ≠ p ∧ t = { s with pin := tickLevel s s.cnt, cnt := s.cnt + 1 }) ∨
          (s.cnt + 1 = p ∧ s.irqPending = false ∧
            t = { s with pin := tickLevel s s.cnt, cnt := 0, irqPending := true })) := by
  unfold timerTick at h
  split at h
  · rename_i ha
    exact .inl ⟨by simpa using ha, by injection h with h; exact h.symm⟩
  · rename_i ha
    right
    split at h
    · cases h
    · rename_i p hp
      refine ⟨p, by simpa using ha, hp, ?_⟩
      simp only at h
      split at h
      · rename_i hc
        obtain ⟨h1, h2⟩ := signalPeriodElapsed_cases h
        exact .inr ⟨hc, h1, h2⟩
      · rename_i hc
        exact .inl ⟨hc, by injection h with h; exact h.symm⟩

theorem timerTick_fault {s : State} {r : Fault} (h : timerTick s = .fault r) :
    r = .isrDeadline (s.trace ++ [.isrDeadline]) := by
  unfold timerTick at h
  split at h
  · cases h
  · split at h
    · cases h
    · simp only at h
      split at h
      · have := signalPeriodElapsed_fault h
        exact this
      · cases h

/-- What the untimed end of a bit period can do (R284). -/
theorem periodEnd_cases {s t : State} (h : periodEnd s = .next t) :
    ∃ p, s.armed = true ∧ s.period = some p ∧ s.irqPending = false ∧
      t = { s with pin := tickLevel s (p - 1), cnt := 0, irqPending := true } := by
  unfold periodEnd at h
  split at h
  · cases h
  · rename_i ha
    split at h
    · cases h
    · rename_i p hp
      obtain ⟨h1, h2⟩ := signalPeriodElapsed_cases h
      exact ⟨p, by simpa using ha, hp, h1, h2⟩

theorem periodEnd_fault {s : State} {r : Fault} (h : periodEnd s = .fault r) :
    r = .isrDeadline (s.trace ++ [.isrDeadline]) := by
  unfold periodEnd at h
  split at h
  · cases h
  · split at h
    · cases h
    · have := signalPeriodElapsed_fault h
      exact this

/-- configurePeriod that answers a state ran while idle and UNCONFIGURED, and set PERIOD alone (R43, R330, R332). -/
theorem configurePeriod_cases {s t : State} {ticks : U16} (h : configurePeriod ticks s = .next t) :
    s.armed = false ∧ s.period = none ∧ s.params.admitsPeriod ticks = true ∧ t = { s with period := some ticks } := by
  unfold configurePeriod at h
  split at h
  · cases h
  · rename_i ha
    split at h
    · cases h
    · rename_i hn
      split at h
      · rename_i hp
        exact ⟨by simpa using ha, not_not.1 hn, hp, by injection h with h; exact h.symm⟩
      · cases h

/-- What `admitsPeriod` says of a period (R121, R330). -/
theorem admitsPeriod_iff (p : Params) (ticks : U16) :
    p.admitsPeriod ticks = true ↔ 0 < p.t0hTicks ∧ p.t0hTicks < p.t1hTicks ∧ p.t1hTicks < ticks := by
  simp [Params.admitsPeriod, and_assoc]

/-- A configured period is not set again (R43, R332). -/
theorem configurePeriod_again {s : State} (ha : s.armed = false) (hp : s.period ≠ none) (ticks : U16) :
    configurePeriod ticks s = .refused .configuredAlready := by
  unfold configurePeriod
  rw [ha, if_neg (by decide), if_pos hp]

/-! ### The blink service, the scan and the read path -/

/-- The phase half of the blink service writes the phase, its start and the refresh, and nothing else (R170). -/
theorem blinkPhaseStep_eq (s : State) :
    ∃ phase t0 refresh,
      blinkPhaseStep s = { s with blinkPhase := phase, blinkT0 := t0, blinkRefresh := refresh } := by
  unfold blinkPhaseStep
  split
  · exact ⟨_, _, _, rfl⟩
  · exact ⟨_, _, _, rfl⟩

/-- What the blink service can do: the phase half, and where a refresh waits on an idle transmitter, an arm (R170). -/
theorem blinkService_cases {s t : State} (h : blinkService s = .next t) :
    t = blinkPhaseStep s ∨
      ∃ u, (blinkPhaseStep s).armed = false ∧ arm (blinkPhaseStep s) = .next u ∧
        t = { u with blinkRefresh := false } := by
  unfold blinkService at h
  simp only at h
  split at h
  · rename_i hc
    rw [thenState_eq_next] at h
    obtain ⟨u, hu, rfl⟩ := h
    simp only [Bool.and_eq_true, Bool.not_eq_true'] at hc
    exact .inr ⟨u, hc.2, hu, rfl⟩
  · exact .inl (by injection h with h; exact h.symm)

/-- One position while its row is driven: a draw where it is not settled or may ghost, else the contact (R201, R343). -/
theorem sampleAt_eq (s : State) (settled : Bool) (n : Nat) (r c : Fin 4) (h : s.rowDrive = some r) :
    sampleAt s settled n r c =
      if settled = false ∨ (closedAt s.keys r c = false ∧ ghostAt s.keys r c = true) then drawBit n
      else closedAt s.keys r c := by
  unfold sampleAt
  cases settled
  · simp
  · simp only [Bool.not_true, Bool.false_eq_true, if_false, Bool.and_eq_true, Bool.not_eq_true']
    by_cases hg : closedAt s.keys r c = false ∧ ghostAt s.keys r c = true
    · rw [if_pos hg, if_pos (.inr hg)]
    · have hn : ¬ (true = false ∨ (closedAt s.keys r c = false ∧ ghostAt s.keys r c = true)) := by simpa using hg
      rw [if_neg hg, if_neg hn]
      unfold columnLevel rowPort
      rw [h]
      cases closedAt s.keys r c <;> cases s.params.colPressedLevel <;> simp [otherLevel]

/-- One row of a scan: KEYS as the environment leaves it, the row released, and the four positions (R201). -/
theorem sampleRow_eq (r : Fin 4) (p : RowPass) (s : State) :
    sampleRow r p s = ({ s with keys := p.keys.getD s.keys, rowDrive := none },
      BitVec.ofFnLE fun c => sampleAt { s with keys := p.keys.getD s.keys, rowDrive := some r }
        (s.params.rowSettle ≤ p.waited) (s.draws + 4 * r.val + c.val) r c) := by
  obtain ⟨keys, waited⟩ := p
  cases keys <;> rfl

/-- The matrix sampling moves KEYS as the environment does, leaves every row released, and sets sixteen draws aside (R201). -/
theorem sampleMatrix_state (inp : ScanInput) (s : State) :
    (sampleMatrix inp s).1 = { s with keys := keysAtRow inp s.keys 3, rowDrive := none, draws := s.draws + 16 } := by
  obtain ⟨⟨k0, w0⟩, ⟨k1, w1⟩, ⟨k2, w2⟩, ⟨k3, w3⟩⟩ := inp
  cases k0 <;> cases k1 <;> cases k2 <;> cases k3 <;>
    simp only [sampleMatrix, sampleRow, driveRow, releaseRow, envKeys, keysAtRow, Option.getD]

/-- A scan is the debouncer on the sample, at the one timestamp taken before it (R202). -/
theorem scan_eq (inp : ScanInput) (s : State) :
    scan inp s = debounce s.now (sampleMatrix inp s).2
      { s with keys := keysAtRow inp s.keys 3, rowDrive := none, draws := s.draws + 16 } := by
  rw [← sampleMatrix_state]
  rfl

/-- A stamp is new exactly where the raw bit changed (R202). -/
theorem newLast_getElem (t : U32) (raw : U16) (s : State) (id : Fin 16) :
    (newLast t raw s)[id] = if raw.getLsbD id.val ≠ s.raw.getLsbD id.val then t else s.last[id] := by
  simp [newLast]

/-- One bit of the published word (R202). -/
theorem newDeb_getLsbD (t : U32) (raw : U16) (s : State) (id : Fin 16) :
    (newDeb t raw s).getLsbD id.val =
      if s.delay.setWidth 32 ≤ t - (newLast t raw s)[id] ∧ raw.getLsbD id.val ≠ s.deb.getLsbD id.val then
        raw.getLsbD id.val
      else s.deb.getLsbD id.val := by
  simp only [newDeb, BitVec.getLsbD_ofFnLE, id.isLt, dite_true, elapsed]
  by_cases h1 : raw.getLsbD id.val = s.deb.getLsbD id.val <;>
    by_cases h2 : s.delay.setWidth 32 ≤ t - (newLast t raw s)[id] <;> simp_all

/-- What a bus read leaves: the slot idle, the response, the draws, and the record of an idle read (R260). -/
theorem serveRead_eq (k : Nat) (s : State) :
    ∃ out extra records, serveRead k s =
      { s with busOut := out, draws := s.draws + extra, rp := .idle, trace := s.trace ++ records } := by
  unfold serveRead
  split
  · exact ⟨_, _, [], by rw [List.append_nil]⟩
  · rename_i h
    exact ⟨drawBytes s k, k, [.readIdle], by rw [← h]; rfl⟩

/-- The wire order: position 24·led + 8·slot + k carries that LED, that slot and bit 7 - k (R122). -/
theorem wireOrder (i : Fin 16) (k : Fin 3) (b : Fin 8) (h : 24 * i.val + 8 * k.val + b.val < 384) :
    led ⟨24 * i.val + 8 * k.val + b.val, h⟩ = i ∧ slot ⟨24 * i.val + 8 * k.val + b.val, h⟩ = k ∧
      bitno ⟨24 * i.val + 8 * k.val + b.val, h⟩ = 7 - b.val := by
  refine ⟨Fin.ext ?_, Fin.ext ?_, ?_⟩ <;> simp only [led, slot, bitno] <;> omega

/-- Every entry of a table an arm builds is one of the two pulse widths, by its bit (R121). -/
theorem buildTable_getElem (s : State) (n : Nat) (h : n < 384) :
    (buildTable s)[n] = if bitval s ⟨n, h⟩ then s.params.t1hTicks else s.params.t0hTicks := by
  simp only [buildTable, code, Vector.getElem_ofFn]

/-- The big-endian word in the form of R11: `(hi8 << 8) | lo8`. -/
theorem be16_eq (hi lo : Byte) : be16 hi lo = (hi.setWidth 16 <<< 8) ||| lo.setWidth 16 := by
  unfold be16
  apply BitVec.eq_of_getLsbD_eq
  intro i h
  rw [BitVec.getLsbD_append, BitVec.getLsbD_or, BitVec.getLsbD_shiftLeft]
  by_cases h8 : i < 8
  · simp [h8, h]
  · have hz : lo.getLsbD i = false := BitVec.getLsbD_of_ge lo i (by omega)
    simp [h8, h, hz]
    omega

end Sys2Proof.Machine
end

