-- ==== Sys2Proof/Laws/Step.lean ====
section
/-! SUPPORT. What a step can do: the schedule's inversion, the fetch, and the agents' answers. -/

namespace Sys2Proof.Machine

/-- A step that answers a state: nothing was picked, or a due PERIOD_ELAPSED ran before a bus event, or the pick ran. -/
theorem step_cases {s t : State} (h : step s = .next t) :
    (s.agenda = [] ∧ t = s) ∨
      (∃ e later, s.agenda = e :: later ∧ isBusEvent e = true ∧ periodElapsed s = .next t) ∨
      ∃ e later, s.agenda = e :: later ∧ runEvent e { s with agenda := later } = .next t := by
  unfold step runAgenda at h
  split at h
  · rename_i ha
    exact .inl ⟨ha, by injection h with h; exact h.symm⟩
  · rename_i e later ha
    right
    split at h
    · rename_i hc
      simp only [Bool.and_eq_true] at hc
      exact .inl ⟨e, later, ha, hc.1, h⟩
    · exact .inr ⟨e, later, ha, h⟩

/-- The same for a step that faults. -/
theorem step_fault {s : State} {r : Fault} (h : step s = .fault r) :
    periodElapsed s = .fault r ∨ ∃ e later, s.agenda = e :: later ∧ runEvent e { s with agenda := later } = .fault r := by
  unfold step runAgenda at h
  split at h
  · cases h
  · rename_i e later ha
    split at h
    · exact .inl h
    · exact .inr ⟨e, later, ha, h⟩

/-- A step on a pick that no interrupt precedes runs that pick. -/
theorem step_runs {s : State} {e : Event} {later : List Event} (ha : s.agenda = e :: later)
    (hi : isBusEvent e = false ∨ periodElapsedEnabled s = false) :
    step s = runEvent e { s with agenda := later } := by
  unfold step runAgenda
  rw [ha]
  rcases hi with hi | hi <;> simp [hi]

/-- DISPATCH that answers a state executed the command the oldest transaction decodes to (R231). -/
theorem dispatch_cases {s t : State} (h : dispatch s = .next t) :
    ∃ op pay rest, s.rx = (op :: pay) :: rest ∧ exec (decodeOp op pay) { s with rx := rest } = .next t := by
  unfold dispatch fetch at h
  cases hr : s.rx with
  | nil => simp [hr] at h
  | cons bytes rest =>
    cases bytes with
    | nil => simp [hr, decode] at h
    | cons op pay => exact ⟨op, pay, rest, rfl, by simpa [hr, decode] using h⟩

theorem dispatch_fault {s : State} {r : Fault} (h : dispatch s = .fault r) :
    ∃ i rest, exec i { s with rx := rest } = .fault r := by
  unfold dispatch fetch at h
  cases hr : s.rx with
  | nil => simp [hr] at h
  | cons bytes rest =>
    cases bytes with
    | nil => simp [hr, decode] at h
    | cons op pay => exact ⟨decodeOp op pay, rest, by simpa [hr, decode] using h⟩

theorem busRead_cases {s t : State} (h : busRead s = .next t) :
    ∃ k rest, s.reads = k :: rest ∧ t = serveRead k { s with reads := rest } := by
  unfold busRead at h
  cases hr : s.reads with
  | nil => simp [hr] at h
  | cons k rest => exact ⟨k, rest, rfl, by simpa [hr] using h.symm⟩

theorem hostWrite_cases {s t : State} {sent : List Byte} (h : hostWrite sent s = .next t) :
    sent ≠ [] ∧ t = { s with rx := s.rx ++ [receive sent s] } := by
  unfold hostWrite at h
  split at h
  · cases h
  · rename_i hs
    exact ⟨hs, by injection h with h; exact h.symm⟩

theorem run_zero (s : State) : Sys2Proof.core.run 0 s = .next s := Host.Core.run.eq_1 Sys2Proof.core s

/-- One step of a run is the step. -/
theorem run_one (s : State) : Sys2Proof.core.run 1 s = step s := by
  have hr := Host.Core.run.eq_2 Sys2Proof.core s 0
  refine hr.trans ?_
  show _ = Sys2Proof.core.step s
  cases Sys2Proof.core.step s
  · exact run_zero _
  · rfl
  · rfl

/-- `n + 1` steps are one step and then `n`. -/
theorem run_succ {s t : State} (n : Nat) (h : step s = .next t) :
    Sys2Proof.core.run (n + 1) s = Sys2Proof.core.run n t := by
  have hs : Sys2Proof.core.step s = .next t := h
  have hr := Host.Core.run.eq_2 Sys2Proof.core s n
  rw [hs] at hr
  exact hr

/-- A run that answers a state has taken its first step. -/
theorem run_succ_cases {s u : State} {n : Nat} (h : Sys2Proof.core.run (n + 1) s = .next u) :
    ∃ t, step s = .next t ∧ Sys2Proof.core.run n t = .next u := by
  have hr := (Host.Core.run.eq_2 Sys2Proof.core s n).symm.trans h
  split at hr
  · rename_i t ht
    exact ⟨t, ht, hr⟩
  · cases hr
  · cases hr

/-- Steps in two parts. -/
theorem run_add (m n : Nat) {s t : State} (h : Sys2Proof.core.run m s = .next t) :
    Sys2Proof.core.run (m + n) s = Sys2Proof.core.run n t := by
  induction m generalizing s with
  | zero =>
    have hz := (run_zero s).symm.trans h
    injection hz with hz
    rw [Nat.zero_add, hz]
  | succ m ih =>
    obtain ⟨u, hu, h⟩ := run_succ_cases h
    rw [Nat.succ_add, run_succ _ hu, ih h]

end Sys2Proof.Machine
end

