-- ==== Sys2Proof/Laws/Frames.lean ====
section
/-! SUPPORT. What the commands and the direct calls leave alone, and what the invariant depends on. -/

namespace Sys2Proof.Machine

/-- A command that answers a state has executed its effect on the payload bytes and recorded the surplus (R231 to R233). -/
theorem exec_cases {i : Instr} {s t : State} (h : exec i s = .next t) :
    ∃ u, commandEffect i (busBytes (requiredLen i s) i.payload s)
        (readPayload i.opcode (requiredLen i s) i.payload s) = .next u ∧
      { u with trace := u.trace ++ excessRecords i.opcode (requiredLen i s) i.payload } = t := by
  rw [exec_eq_runCommand, runCommand_eq, thenRecord_eq_next] at h
  exact h

/-- A command that faults was a COMMIT whose arm faulted; its surplus is recorded after the fault (R160, R283). -/
theorem exec_fault {i : Instr} {s : State} {r : Fault} (h : exec i s = .fault r) :
    ∃ pay q, i = .commit pay ∧ arm s = .fault q ∧ faultThenRecords q (excessRecords 0xA0 0 pay) = r := by
  rw [exec_eq_runCommand, runCommand_eq, thenRecord_eq_fault] at h
  obtain ⟨q, hq, hr⟩ := h
  cases i <;> simp only [commandEffect] at hq <;> try cases hq
  rename_i pay
  refine ⟨pay, q, rfl, ?_, hr⟩
  have hs : readPayload (Instr.commit pay).opcode (requiredLen (.commit pay) s) (Instr.commit pay).payload s = s := by
    simp [readPayload_eq, requiredLen, payloadLen, Instr.family]
  rw [← hq, hs]

/-- A command's effect leaves the scanner, the inputs and the queues; COMMIT's is an arm, and every other leaves the engine. -/
theorem commandEffect_frame (i : Instr) (b : List Byte) {s t : State} (h : commandEffect i b s = .next t) :
    SameScanner s t ∧ SameInputs s t ∧ ((∀ pay, i ≠ .commit pay) → SameEngine s t) ∧ s.trace <+: t.trace ∧
      t.rx = s.rx ∧ t.agenda = s.agenda ∧ t.reads = s.reads ∧ (∀ pay, i = .commit pay → arm s = .next t) ∧
      (i.family ≠ .query → i.family ≠ .reset → t.rp = s.rp) := by
  cases i <;> simp only [commandEffect] at h
  case commit pay =>
    obtain ⟨-, ⟨-, rfl⟩ | ⟨-, -, rfl⟩⟩ := arm_cases h
    · exact ⟨by simp [SameScanner], by simp [SameInputs], fun hh => absurd rfl (hh pay), by simp, rfl, rfl, rfl,
        fun _ _ => h, fun _ _ => rfl⟩
    · exact ⟨by simp [SameScanner], by simp [SameInputs], fun hh => absurd rfl (hh pay), by simp, by simp, by simp,
        by simp, fun _ _ => h, fun _ _ => by simp⟩
  case setLed id pay =>
    injection h with h; subst h
    unfold setLedEffect; split <;> simp [SameScanner, SameInputs, SameEngine, setColorRgb, setColorPacked]
  case blinkDelay sel pay =>
    injection h with h; subst h
    unfold blinkDelayEffect; split <;> simp [SameScanner, SameInputs, SameEngine]
  all_goals
    injection h with h; subst h
    simp [SameScanner, SameInputs, SameEngine, setMask16, setDisplayState, setDebounceDelay, Instr.family]

/-- A direct call is an arm, or leaves the engine, the scanner, the read path, the trace and the queues (R87). -/
theorem callOp_cases {op : BlockOp} {s t : State} (h : callOp op s = .next t) :
    (op = .arm ∧ ∃ u r, arm s = .next u ∧ t = { u with ret := r }) ∨
      (SameEngine s t ∧ SameScanner s t ∧ SameInputs s t ∧ t.rp = s.rp ∧ t.trace = s.trace ∧ t.rx = s.rx ∧
        t.agenda = s.agenda ∧ t.reads = s.reads) := by
  cases op <;> simp only [callOp] at h
  case arm =>
    rw [thenState_eq_next] at h
    obtain ⟨u, hu, rfl⟩ := h
    exact .inl ⟨rfl, u, _, hu, rfl⟩
  all_goals right
  all_goals first
    | (obtain ⟨i, h⟩ := withId_eq_next h; injection h with h; subst h
       simp [SameEngine, SameScanner, SameInputs, setColorRgb, setColorPacked, setMaskBit])
    | (injection h with h; subst h
       simp [SameEngine, SameScanner, SameInputs, setMask16, setDisplayState, setDebounceDelay])

/-- The invariant is about the parameters, the engine and the scanner. -/
theorem inv_congr {s t : State} (hs : s.Inv) (hp : t.params = s.params) (he : SameEngine s t) (hc : SameScanner s t) :
    t.Inv := by
  obtain ⟨a1, a2, a3, a4, a5, a6, a7, a8, -, -⟩ := he
  obtain ⟨b1, b2, -, b4, b5⟩ := hc
  exact ⟨by rw [hp]; exact hs.pulses, by rw [hp]; exact hs.deadline, by rw [a6, hp]; exact hs.period_fixed,
    by rw [a6, hp]; exact hs.period_above,
    by rw [a2, a6]; exact hs.armed_configured, by rw [a2, a3]; exact hs.armed_cursor,
    by rw [a2, a1, a3, a4]; exact hs.armed_cmp, by rw [a2, a1, hp]; exact hs.armed_table,
    by rw [a2, a6, a5]; exact hs.armed_cnt, by rw [a2, a7]; exact hs.armed_pin,
    by rw [a8, a2]; exact hs.pending_armed, by rw [b5]; exact hs.rows_idle, by rw [b1, b2, b4]; exact hs.stamped⟩

/-- The OPEN timer parameters are in the order D10 asks for, whatever their values. -/
theorem openTicks_ordered : 0 < openT0h ∧ openT0h < openT1h ∧ openT1h < openPeriod ∧ openPeriod < 65536 := by
  unfold openPeriod openT1h openT0h
  have h1 := Nat.mod_lt Config.t0hSeed (show 65533 > 0 by decide)
  have h2 := Nat.mod_lt Config.t1hSeed (show 65534 - (1 + Config.t0hSeed % 65533) > 0 by omega)
  have h3 := Nat.mod_lt Config.periodSeed
    (show 65535 - (1 + Config.t0hSeed % 65533 + 1 + Config.t1hSeed % (65534 - (1 + Config.t0hSeed % 65533))) > 0 by
      omega)
  omega

/-- The OPEN deadline is within the bound R340 gives it, whatever its value. -/
theorem openIsrDeadline_le : openIsrDeadline ≤ openT0h :=
  Nat.le_of_lt_succ (Nat.mod_lt _ (Nat.succ_pos _))

end Sys2Proof.Machine
end

