-- ==== Sys2Proof/Laws/PerInstr.lean ====
section
/-! SUPPORT. The per-instruction family Opcode: the opcode byte a well-formed command encodes to is one the opcode map gives to
the command's own family (30_encoding.md R112). -/

namespace Sys2Proof.Laws.Opcode

/-- The opcode byte of the command lies in its family's row of R112. -/
def Statement (i : Instr) : Prop := i.wellFormed = true → familyOf i.opcode = i.family

theorem setLed (id : BitVec 4) (pay : List Byte) : Statement (.setLed id pay) := fun _ => familyOf_setLed id
theorem setAll (pay : List Byte) : Statement (.setAll pay) := fun _ => familyOf_setAll
theorem setEach (pay : List Byte) : Statement (.setEach pay) := fun _ => familyOf_setEach
theorem setMask (pay : List Byte) : Statement (.setMask pay) := fun _ => familyOf_setMask
theorem display (on : Bool) (pay : List Byte) : Statement (.display on pay) := fun _ => familyOf_display on
theorem blink (on : Bool) (pay : List Byte) : Statement (.blink on pay) := fun _ => familyOf_blink on
theorem blinkDelay (sel : Bool) (pay : List Byte) : Statement (.blinkDelay sel pay) := fun _ => familyOf_blinkDelay sel
theorem debounce (pay : List Byte) : Statement (.debounce pay) := fun _ => familyOf_debounce
theorem colorMode (mode : Bool) (pay : List Byte) : Statement (.colorMode mode pay) := fun _ => familyOf_colorMode mode
theorem clear (pay : List Byte) : Statement (.clear pay) := fun _ => familyOf_clear
theorem commit (pay : List Byte) : Statement (.commit pay) := fun _ => familyOf_commit
theorem query (pay : List Byte) : Statement (.query pay) := fun _ => familyOf_query
theorem reset (pay : List Byte) : Statement (.reset pay) := fun _ => familyOf_reset
theorem unrecognized (op : Byte) (pay : List Byte) : Statement (.unrecognized op pay) :=
  fun h => familyOf_of_unrecognized op h

end Sys2Proof.Laws.Opcode
end

