-- ==== Sys2Proof/Tests/Slice0.lean ====
section
/-! SUPPORT. The model's own tests. Expected values come from spec/95_test_vectors.md (L1, L2, named in each comment) or by hand
from the rule named. The timer parameters of `bench` are small numbers D10 admits; no test rests on an OPEN value. -/

namespace Sys2Proof.Tests

set_option Elab.async false

open Sys2Proof Sys2Proof.Machine

/-! ### The bench -/

/-- T0 = 2, T1 = 4, PERIOD = 6, ISR_DEADLINE = 2, ROW_SETTLE = 3, levels low, DELAY = 0. -/
def benchParams : Params := { defaultParams with
  t0hTicks := 2, t1hTicks := 4, periodTicks := 6, isrDeadline := 2, rowSettle := 3
  rowActiveLevel := .low, colPressedLevel := .low, resetDebounceMs := 0 }

/-- "Booted" of 95_test_vectors.md, at NOW = 0. -/
def bench : State := { State.powerOn benchParams [] 0 0 with period := some 6, now := 0 }

/-- In the middle of a transmission, at this cursor and tick. -/
def sending (cursor cnt : U16) : State :=
  { bench with armed := true, cursor := cursor, cnt := cnt, cmp := 4, pin := .low, table := Vector.replicate 384 4 }

/-- A predicate of the next state; false of a fault or a refusal. -/
def answers (o : Out) (p : State → Bool) : Bool :=
  match o with
  | .next s => p s
  | .fault _ | .refused _ => false

/-- The outcome is this fault. -/
def faultsWith (o : Out) (f : Fault) : Bool :=
  match o with
  | .fault r => r == f
  | .next _ | .refused _ => false

/-- The outcome is this refusal. -/
def refusesWith (o : Out) (r : Refusal) : Bool :=
  match o with
  | .refused q => q == r
  | .next _ | .fault _ => false

/-- One step that runs this event. -/
def after (e : Event) (s : State) (p : State → Bool) : Bool := answers (step { s with agenda := [e] }) p

/-- One step that dispatches this transaction. -/
def sent (bytes : List Byte) (s : State) (p : State → Bool) : Bool :=
  after .dispatch { s with rx := [bytes] } p

/-- A settled scan with these contacts closed. -/
def scanOf (keys : U16) : Event := .scan ⟨⟨some keys, 3⟩, ⟨none, 3⟩, ⟨none, 3⟩, ⟨none, 3⟩⟩

/-- Which positions of the table carry the long pulse. -/
def word (s : State) : List Bool := s.table.toList.map (· == s.params.t1hTicks)

/-- A wire word from its bits as 0 and 1. -/
def bits (l : List Nat) : List Bool := l.map (· == 1)

/-! ### Well-formedness: the one check, and each other constructor passes -/

/-- 0x41 is DISPLAY on, so no UNRECOGNIZED may stand for it (R123). -/
theorem test_wellFormed_refuses : (Instr.unrecognized 0x41 []).wellFormed = false := by decide +kernel

theorem test_wellFormed_accepts :
    ([.unrecognized 0x42 [], .unrecognized 0xC5 [1], .setLed 15 [], .setAll [], .setEach [], .setMask [], .display true [],
      .blink false [], .blinkDelay true [], .debounce [], .colorMode true [], .clear [], .commit [], .query [],
      .reset []] : List Instr).all Instr.wellFormed = true := by decide +kernel

/-! ### Decoding: one byte per row of R112, written in bits, and L2.2 -/

theorem test_decode_setLed : decode [0b00000000, 1, 2, 3] = .ok (.setLed 0 [1, 2, 3]) ∧
    decode [0b00001111] = .ok (.setLed 15 []) := by decide +kernel
theorem test_decode_setAll : decode [0b00010000, 9] = .ok (.setAll [9]) := by decide +kernel
theorem test_decode_setEach : decode [0b00100000, 9] = .ok (.setEach [9]) := by decide +kernel
theorem test_decode_setMask : decode [0b00110000, 0x80, 0x01] = .ok (.setMask [0x80, 0x01]) := by decide +kernel
theorem test_decode_display : decode [0b01000000] = .ok (.display false []) ∧ decode [0b01000001] = .ok (.display true []) := by
  decide +kernel
theorem test_decode_blink : decode [0b01010000] = .ok (.blink false []) ∧ decode [0b01010001] = .ok (.blink true []) := by
  decide +kernel
/-- 0x60 is the unlit duration, 0x61 the lit one (R114, L2.2). -/
theorem test_decode_blinkDelay : decode [0b01100000, 0, 0xC8] = .ok (.blinkDelay false [0, 0xC8]) ∧
    decode [0b01100001, 1, 0x2C] = .ok (.blinkDelay true [1, 0x2C]) := by decide +kernel
theorem test_decode_debounce : decode [0b01110000, 5] = .ok (.debounce [5]) := by decide +kernel
theorem test_decode_colorMode : decode [0b10000000] = .ok (.colorMode false []) ∧
    decode [0b10000001] = .ok (.colorMode true []) := by decide +kernel
theorem test_decode_clear : decode [0b10010000] = .ok (.clear []) := by decide +kernel
theorem test_decode_commit : decode [0b10100000] = .ok (.commit []) := by decide +kernel
theorem test_decode_query : decode [0b10110000] = .ok (.query []) := by decide +kernel
theorem test_decode_reset : decode [0b11110000] = .ok (.reset []) := by decide +kernel
/-- L2.2: 0x11, 0x42, 0xB1, 0xFF and the 48 bytes from 0xC0 to 0xEF. -/
theorem test_decode_unrecognized :
    decode [0x11] = .ok (.unrecognized 0x11 []) ∧ decode [0x42, 7] = .ok (.unrecognized 0x42 [7]) ∧
      decode [0xB1] = .ok (.unrecognized 0xB1 []) ∧ decode [0xFF] = .ok (.unrecognized 0xFF []) ∧
      ((List.range 48).all fun k => familyOf (BitVec.ofNat 8 (0xC0 + k)) == .unrecognized) = true := by decide +kernel
theorem test_decode_nothing : decode [] = .error .emptyTransaction := by decide +kernel

/-- The encoder writes the same bytes, from the opcode column of R112. -/
theorem test_encode : encode (.setLed 5 [0xE4]) = [0x05, 0xE4] ∧ encode (.blinkDelay true [1, 0x2C]) = [0x61, 1, 0x2C] ∧
    encode (.colorMode false []) = [0x80] ∧ encode (.unrecognized 0xC5 [1, 2, 3]) = [0xC5, 1, 2, 3] := by decide +kernel

/-- A table word alone, and with RGB24 operand bytes of zeros (R115). -/
theorem test_decodeTableWord : decodeTableWord 8 0x07 = some (.setLed 7 [0, 0, 0]) ∧
    decodeTableWord 8 0x61 = some (.blinkDelay true [0, 0]) ∧ decodeTableWord 8 0xF0 = some (.reset []) ∧
    decodeTableWord 24 0x010030 = some (.setMask [0, 1]) ∧ decodeTableWord 0 0 = none := by decide +kernel

/-- Step runs the placed word as the first thing after reset; COMMIT before boot is the model fault of R331. -/
theorem test_withFetchWord : answers (step (State.reset.withFetchWord 8 0x40)) (fun s => !s.display) = true ∧
    faultsWith (step (State.reset.withFetchWord 8 0xA0)) (.notConfigured [.notConfigured]) = true := by decide +kernel

/-! ### Packed colour (L2.3) -/

theorem test_unpack : [0x00, 0xC0, 0x01, 0x15, 0x3F, 0x7F, 0xAA, 0x9B, 0xC1, 0xD8, 0xE4, 0xFF].map unpack =
    [⟨0, 0, 0⟩, ⟨0, 0, 0⟩, ⟨0, 0, 21⟩, ⟨21, 21, 21⟩, ⟨63, 63, 63⟩, ⟨127, 127, 127⟩, ⟨127, 127, 127⟩, ⟨63, 127, 191⟩,
      ⟨0, 0, 85⟩, ⟨85, 170, 0⟩, ⟨170, 85, 0⟩, ⟨255, 255, 255⟩] := by decide +kernel

/-! ### Commands (L2.4, L2.10, L2.11) -/

theorem test_setLed_rgb24 : sent [0x03, 10, 20, 30] bench
    (fun s => s.color[3] == ⟨10, 20, 30⟩ && s.color[2] == black && s.color[4] == black && s.trace == []) = true := by
  decide +kernel
theorem test_setLed_packed : sent [0x05, 0xE4] { bench with colorMode := .packed8 }
    (fun s => s.color[5] == ⟨170, 85, 0⟩) = true := by decide +kernel
/-- L1.3. -/
theorem test_setAll_rgb24 : sent [0x10, 10, 20, 30] bench
    (fun s => s.color == Vector.replicate 16 ⟨10, 20, 30⟩) = true := by decide +kernel
/-- L2.10: one draw, one record. -/
theorem test_setAll_underrun : sent [0x10] { bench with colorMode := .packed8 }
    (fun s => s.trace == [.payloadUnderrun 0x10 0 1] && s.draws == bench.draws + 1) = true := by
  decide +kernel
theorem test_setEach_packed : sent (0x20 :: 0xFF :: List.replicate 15 0) { bench with colorMode := .packed8 }
    (fun s => s.color[0] == ⟨255, 255, 255⟩ && s.color[1] == black && s.color[15] == black && s.trace == []) = true := by
  decide +kernel
theorem test_setEach_underrun : sent [0x20, 1, 2, 3, 4, 5, 6] bench
    (fun s => s.color[0] == ⟨1, 2, 3⟩ && s.color[1] == ⟨4, 5, 6⟩ && s.trace == [.payloadUnderrun 0x20 6 48] &&
      s.draws == bench.draws + 42) = true := by decide +kernel
theorem test_setMask : sent [0x30, 0x80, 0x01] bench (fun s => s.mask == 0x8001) = true := by decide +kernel
/-- L2.10. -/
theorem test_setMask_underrun : sent [0x30, 0xAB] bench
    (fun s => s.draws == bench.draws + 1 && s.trace == [.payloadUnderrun 0x30 1 2]) = true := by decide +kernel
theorem test_display_off : sent [0x40] bench (fun s => !s.display && !s.armed) = true := by decide +kernel
theorem test_display_surplus : sent [0x41, 0x99] { bench with display := false }
    (fun s => s.display && s.trace == [.excessPayload 0x41 1]) = true := by decide +kernel
theorem test_blink_on : sent [0x51] { bench with now := 50, blinkPhase := .unlit, blinkRefresh := true }
    (fun s => s.blinkEn && s.blinkPhase == .lit && s.blinkT0 == 50 && !s.blinkRefresh) = true := by decide +kernel
/-- R156: disabling keeps BLINK_T0 and the durations. -/
theorem test_blink_off : sent [0x50] { bench with now := 50, blinkEn := true, blinkT0 := 7, blinkOnMs := 3 }
    (fun s => !s.blinkEn && s.blinkT0 == 7 && s.blinkOnMs == 3) = true := by decide +kernel
theorem test_blinkDelay_on : sent [0x61, 1, 0x2C] bench (fun s => s.blinkOnMs == 300 && s.blinkOffMs == 0) = true := by
  decide +kernel
theorem test_blinkDelay_off : sent [0x60, 0, 0xC8] bench (fun s => s.blinkOffMs == 200 && s.blinkOnMs == 0) = true := by
  decide +kernel
theorem test_debounce : sent [0x70, 5] bench (fun s => s.delay == 5) = true := by decide +kernel
theorem test_colorMode_packed : sent [0x80] { bench with color := Vector.replicate 16 ⟨1, 2, 3⟩ }
    (fun s => s.colorMode == .packed8 && s.color[0] == ⟨1, 2, 3⟩) = true := by decide +kernel
theorem test_colorMode_rgb24 : sent [0x81] { bench with colorMode := .packed8 } (fun s => s.colorMode == .rgb24) = true := by
  decide +kernel
theorem test_clear : sent [0x90] { bench with color := Vector.replicate 16 ⟨1, 2, 3⟩ }
    (fun s => s.color == Vector.replicate 16 ⟨0, 0, 0⟩ && s.mask == 0xFFFF && s.display && !s.armed) = true := by decide +kernel
/-- L2.5: booted, accepted; COLOR[0] = (10, 20, 30). -/
theorem test_commit : sent [0xA0] { bench with color := bench.color.set 0 ⟨10, 20, 30⟩ }
    (fun s => s.armed && s.cursor == 0 && s.cnt == 0 && s.cmp == 2 && s.pin == .low &&
      word s == bits [0,0,0,1,0,1,0,0, 0,0,0,0,1,0,1,0, 0,0,0,1,1,1,1,0] ++ List.replicate 360 false) = true := by
  decide +kernel
/-- L2.10 and L2.5: busy, the trace order of R283. -/
theorem test_commit_busy : sent [0xA0, 0x00] (sending 100 0)
    (fun s => s.trace == [.rearmBusy 100, .excessPayload 0xA0 1] && s.armed && s.cursor == 100) = true := by decide +kernel
/-- R283: the model fault's record, then the surplus. -/
theorem test_commit_unconfigured : faultsWith (step { bench with period := none, rx := [[0xA0, 0x00]], agenda := [.dispatch] })
    (.notConfigured [.notConfigured, .excessPayload 0xA0 1]) = true := by decide +kernel
theorem test_query : sent [0xB0] { bench with deb := 0x0201, rp := .buttons 1 } (fun s => s.rp == .buttons 0x0201) = true := by
  decide +kernel
/-- L2.11. -/
theorem test_reset : sent [0xF0] { sending 50 0 with
      color := Vector.replicate 16 ⟨9, 9, 9⟩, mask := 1, display := false, blinkEn := true, blinkPhase := .unlit
      colorMode := .packed8, delay := 20, rp := .buttons 5, deb := 4 }
    (fun s => s.color == Vector.replicate 16 ⟨0, 0, 0⟩ && s.mask == 0xFFFF && s.display && !s.blinkEn && s.blinkPhase == .lit &&
      s.colorMode == .rgb24 && s.delay == 0 && s.rp == .idle && s.armed && s.cursor == 50 && s.cmp == 4 && s.deb == 4) =
      true := by decide +kernel
/-- L1.5. -/
theorem test_unrecognized : sent [0xC5, 1, 2, 3] bench
    (fun s => s.trace == [.unrecognizedOpcode 0xC5] && s.color == bench.color && s.mask == bench.mask && s.display &&
      s.deb == bench.deb && s.rp == .idle && s.draws == bench.draws) = true := by decide +kernel

/-! ### Arm vectors (L2.5) -/

/-- A bench with every LED white. -/
def white : State := { bench with color := Vector.replicate 16 ⟨255, 255, 255⟩ }

/-- MASK = 0x0002: bits 24 to 47 only. -/
theorem test_arm_mask : [23, 24, 47, 48].map (bitval { white with mask := 2 }) = [false, true, true, false] := by
  decide +kernel
/-- The phase counts only while blink is on. -/
theorem test_arm_blink : [0, 383].map (bitval { white with blinkEn := true, blinkPhase := .unlit }) = [false, false] ∧
    [0, 383].map (bitval { white with blinkPhase := .unlit }) = [true, true] := by decide +kernel
/-- Red is the second byte on the wire. -/
theorem test_arm_red_is_second : [7, 8, 15, 16].map (bitval { bench with color := bench.color.set 0 ⟨255, 0, 0⟩ }) =
    [false, true, true, false] := by decide +kernel
/-- The table of positions of L2.5. -/
theorem test_wire_positions : ([0, 7, 8, 16, 23, 24, 120, 383] : List (Fin 384)).map (fun p => (led p, chan p, bitno p)) =
    [(0, 1, 7), (0, 1, 0), (0, 0, 7), (0, 2, 7), (0, 2, 0), (1, 1, 7), (5, 1, 7), (15, 2, 0)] := by decide +kernel

/-! ### The interrupt and the timer (L2.6, R166) -/

/-- L2.6 at 382 and at 383. -/
theorem test_periodElapsed_advances : after .periodElapsed { sending 382 0 with irqPending := true }
    (fun s => s.cursor == 383 && s.cmp == 4 && s.armed && !s.irqPending) = true := by decide +kernel
theorem test_periodElapsed_completes : after .periodElapsed { sending 383 0 with irqPending := true }
    (fun s => s.cursor == 384 && !s.armed && s.pin == .low && s.cmp == 4) = true := by decide +kernel
theorem test_periodElapsed_not_enabled :
    refusesWith (step { bench with agenda := [.periodElapsed] }) .periodElapsedNotEnabled = true := by decide +kernel
/-- R166: HIGH for the first CMP = 4 ticks, then LOW. -/
theorem test_tick_high : after .tick (sending 0 3) (fun s => s.pin == .high && s.cnt == 4) = true := by decide +kernel
theorem test_tick_low : after .tick (sending 0 4) (fun s => s.pin == .low && s.cnt == 5) = true := by decide +kernel
/-- R165, R340: a "1" after a "0", its compare value loaded after 2 ticks = ISR_DEADLINE, at the latest: the pulse goes on. -/
theorem test_late_load_keeps_the_pulse : answers (Sys2Proof.core.run 2
      { sending 0 2 with irqPending := true, cmp := 2, pin := .high, agenda := [.periodElapsed, .tick] })
    (fun s => s.pin == .high && s.cmp == 4 && s.cnt == 3) = true := by decide +kernel
/-- R287: a period that ends with the last interrupt unserved. -/
theorem test_tick_lost : faultsWith (step { sending 0 5 with irqPending := true, agenda := [.tick] })
    (.isrDeadline [.isrDeadline]) = true := by decide +kernel
/-- R345: no edge rises after the 384th period. -/
theorem test_tick_no_385th_edge : after .tick { sending 383 0 with irqPending := true } (fun s => s.pin == .low) = true := by
  decide +kernel

/-! ### Boot (R330, R43) -/

theorem test_configurePeriod : after .configurePeriod { bench with period := none } (fun s => s.period == some 6) = true := by
  decide +kernel
theorem test_configurePeriod_once : refusesWith (step { bench with agenda := [.configurePeriod] }) .configuredAlready = true := by
  decide +kernel
/-- D13, R330: a line that is not driven is pulled LOW, a driven one is not; the arm after it leaves the line LOW. -/
theorem test_pullLow : after .pullLow bench (fun s => s.pin == .low && !s.armed) = true ∧
    after .pullLow { sending 0 1 with pin := .high } (fun s => s.pin == .high) = true := by decide +kernel

/-! ### The blink service (L2.12) -/

/-- EN, LIT, ON = 300, OFF = 200, T0 = 1000. -/
def blinking (now : U32) : State :=
  { bench with blinkEn := true, blinkOnMs := 300, blinkOffMs := 200, blinkT0 := 1000, now := now }

theorem test_blink_not_due : after .blinkService (blinking 1299) 
    (fun s => s.blinkPhase == .lit && s.blinkT0 == 1000 && !s.blinkRefresh && !s.armed) = true := by decide +kernel
theorem test_blink_due : after .blinkService (blinking 1300)
    (fun s => s.blinkPhase == .unlit && s.blinkT0 == 1300 && s.armed && !s.blinkRefresh) = true := by decide +kernel
theorem test_blink_due_busy : after .blinkService { blinking 1300 with armed := true }
    (fun s => s.blinkPhase == .unlit && s.blinkT0 == 1300 && s.blinkRefresh) = true := by decide +kernel

/-! ### Debouncing (L2.7, L2.8) -/

theorem test_scan_stamps : after (scanOf 1) { bench with delay := 5, now := 100 }
    (fun s => s.raw == 1 && s.last[0] == 100 && s.deb == 0 && s.ret == .changed false) = true := by decide +kernel
theorem test_scan_commits : after (scanOf 1)
      { bench with delay := 5, raw := 1, last := bench.last.set 0 100, lastWritten := 1, now := 105 }
    (fun s => s.deb == 1 && s.ret == .changed true) = true := by decide +kernel
/-- DELAY = 0: instant publish; key (1, 2) is button 6. -/
theorem test_scan_zero_delay : after (scanOf 0x40) { bench with now := 50 }
    (fun s => s.raw == 0x40 && s.deb == 0x40 && s.ret == .changed true) = true := by decide +kernel
/-- Elapsed 5 across the wrap. -/
theorem test_scan_wrap : after (scanOf 1) { bench with delay := 5, raw := 1, last := bench.last.set 0 0xFFFFFFFE, now := 3 }
    (fun s => s.deb == 1) = true := by decide +kernel

/-! ### Query and read (L2.9) -/

theorem test_read_two : after .busRead { bench with rp := .buttons 0x0201, reads := [2] }
    (fun s => s.busOut == [2, 1] && s.rp == .idle) = true := by decide +kernel
theorem test_read_one : after .busRead { bench with rp := .buttons 0x0201, reads := [1] }
    (fun s => s.busOut == [2] && s.rp == .idle) = true := by decide +kernel
theorem test_read_none : after .busRead { bench with rp := .buttons 0x0201, reads := [0] }
    (fun s => s.busOut == [] && s.rp == .idle && s.trace == []) = true := by decide +kernel
theorem test_read_idle : after .busRead { bench with reads := [2] }
    (fun s => s.busOut.length == 2 && s.trace == [.readIdle] && s.rp == .idle) = true := by decide +kernel

/-! ### Ghosting and settling (R201, R343) -/

/-- Three corners of a rectangle closed: the fourth may ghost, a contact outside it may not; an early sample is the draw. -/
theorem test_ghost : ghostAt 0x0013 1 1 = true ∧ ghostAt 0x0013 2 2 = false ∧ ghostAt 0x0003 1 1 = false := by decide +kernel

/-! ### Witnesses: for each statement with hypotheses, a state and operands that meet them all, clause by clause -/

/-- What `answers` says of an outcome. -/
theorem of_answers {o : Out} {p : State → Bool} (h : answers o p = true) : ∃ t, o = .next t ∧ p t = true := by
  cases o with
  | next t => exact ⟨t, rfl, h⟩
  | fault r => cases h
  | refused r => cases h

/-- What `faultsWith` says of an outcome. -/
theorem of_faultsWith {o : Out} {f : Fault} (h : faultsWith o f = true) : o = .fault f := by
  cases o with
  | fault r => rw [eq_of_beq h]
  | next t => cases h
  | refused r => cases h

/-- The bench with LATCH_LOW_MIN = 10 and this gap. -/
def timed (gap : Nat) : State := { bench with params := { benchParams with latchLowMin := some 10 }, gap := some gap }

/-- No gap condition binds the bench, where LATCH_LOW_MIN is not given. -/
theorem bench_ready : ∀ least ticks, bench.params.latchLowMin = some least → bench.gap = some ticks → least ≤ ticks := by
  intro least ticks h
  have hn : bench.params.latchLowMin = none := by decide +kernel
  rw [hn] at h
  cases h

/-- A gap of exactly LATCH_LOW_MIN is long enough. -/
theorem timed_ready : ∀ least ticks, (timed 10).params.latchLowMin = some least → (timed 10).gap = some ticks →
    least ≤ ticks := by
  intro least ticks h1 h2
  have e1 : (timed 10).params.latchLowMin = some 10 := by decide +kernel
  have e2 : (timed 10).gap = some 10 := by decide +kernel
  rw [e1] at h1
  rw [e2] at h2
  injection h1 with h1
  injection h2 with h2
  omega

theorem witness_DecodeOfEncode : (Instr.unrecognized 0xFF [1]).wellFormed = true ∧ (Instr.setLed 15 []).wellFormed = true := by
  decide +kernel
theorem witness_EncodeOfDecode : decode [0x61, 1, 0x2C] = .ok (.blinkDelay true [1, 0x2C]) := by decide +kernel
theorem witness_OpcodeRowsDisjoint : ∃ r ∈ opTable, rowMatches 0x41 r = true := ⟨⟨.display, 0x40, 0xFE⟩, by decide +kernel⟩
theorem witness_colour_modes : bench.colorMode = .rgb24 ∧ ({ bench with colorMode := .packed8 } : State).colorMode = .packed8 := by
  decide +kernel
theorem witness_CommitStartsATransmission : bench.period ≠ none ∧ bench.armed = false ∧ (timed 10).period ≠ none ∧
    (timed 10).armed = false := by decide +kernel
theorem witness_CommitTableIsTheWireWord : ∃ s t : State, s.armed = false ∧ exec (.commit []) s = .next t := by
  obtain ⟨t, ht, -⟩ := of_answers (o := exec (.commit []) bench) (p := fun s => s.armed) (by decide +kernel)
  exact ⟨bench, t, by decide +kernel, ht⟩
theorem witness_DisplayOffSendsZeros : ∃ s t : State, s.display = false ∧ s.armed = false ∧ exec (.commit []) s = .next t := by
  obtain ⟨t, ht, -⟩ :=
    of_answers (o := exec (.commit []) { white with display := false }) (p := fun s => s.armed) (by decide +kernel)
  exact ⟨_, t, rfl, by decide +kernel, ht⟩
theorem witness_CommitWhileBusyIsIgnored : (sending 383 0).period ≠ none ∧ (sending 383 0).armed = true := by decide +kernel
theorem witness_CommitBeforeConfigurationFaults : State.reset.period = none := by decide +kernel
theorem witness_CommitTooSoonFaults : (timed 9).period ≠ none ∧ (timed 9).armed = false ∧
    (timed 9).params.latchLowMin = some 10 ∧ (timed 9).gap = some 9 ∧ 9 < 10 := by decide +kernel
theorem witness_UnrecognizedOpcodeIsANoOp : isUnrecognizedByte 0x11 = true ∧ isUnrecognizedByte 0xFF = true := by decide +kernel
theorem witness_CommandsKeepEngineAndScanner : ∃ (s t : State), exec (.query []) s = .next t ∧
    ∀ pay, Instr.query [] ≠ .commit pay := by
  obtain ⟨t, ht, -⟩ := of_answers (o := exec (.query []) bench) (p := fun _ => true) (by decide +kernel)
  exact ⟨bench, t, ht, by simp⟩

/-- DISPATCH picked with DISPLAY off received: idle, and with an interrupt pending but masked. -/
theorem witness_StepRunsTheDecodedCommand :
    let s : State := { bench with agenda := [.dispatch], rx := [[0x40]] }
    let m : State := { sending 3 0 with agenda := [.dispatch], rx := [[0x40]], irqPending := true, irqMasked := true }
    s.agenda = .dispatch :: [] ∧ s.rx = [0x40] :: [] ∧ decode [0x40] = .ok (.display false []) ∧
      (s.armed && s.irqPending && !s.irqMasked) = false ∧ (m.armed && m.irqPending && !m.irqMasked) = false := by
  decide +kernel
theorem witness_PendingInterruptPrecedesBusEvents :
    let s : State := { sending 3 0 with agenda := [.dispatch], rx := [[0x40]], irqPending := true }
    s.agenda = .dispatch :: [] ∧ s.armed = true ∧ s.irqPending = true ∧ s.irqMasked = false := by decide +kernel
theorem witness_ReceiveLimitCutsATransaction :
    let s : State := { bench with agenda := [.hostWrite [0x30, 1, 2]] }
    let m : State := { s with params := { benchParams with busRxMax := some 2 } }
    s.agenda = .hostWrite [0x30, 1, 2] :: [] ∧ m.agenda = .hostWrite [0x30, 1, 2] :: [] ∧ ([0x30, 1, 2] : List Byte) ≠ [] ∧
      s.params.busRxMax = none ∧ m.params.busRxMax = some 2 := by decide +kernel

/-- A state in the middle of a transmission meets the invariant. -/
theorem sending_inv : (sending 0 5).Inv where
  pulses := by decide +kernel
  deadline := by decide +kernel
  period_fixed := by
    intro p h
    have hp : (sending 0 5).period = some 6 := by decide +kernel
    rw [hp] at h
    injection h with h
    rw [← h]
    decide +kernel
  period_above := by
    intro p h
    have hp : (sending 0 5).period = some 6 := by decide +kernel
    rw [hp] at h
    injection h with h
    rw [← h]
    decide +kernel
  armed_configured := by intro _; decide +kernel
  armed_cursor := by intro _; decide +kernel
  armed_cmp := by intro _; decide +kernel
  armed_table := by
    intro _ p
    exact .inr ((Vector.getElem_replicate (n := 384) (a := (4 : U16)) p.isLt).trans (by decide +kernel))
  armed_cnt := by
    intro _ p h
    have hp : (sending 0 5).period = some 6 := by decide +kernel
    rw [hp] at h
    injection h with h
    rw [← h]
    decide +kernel
  armed_pin := by intro _; decide +kernel
  pending_armed := by intro _; rfl
  rows_idle := rfl
  stamped := by
    intro id h
    exact absurd rfl h

/-- ... and a step from it answers a state. -/
theorem witness_StepKeepsTheInvariant : ∃ s t : State, s.Inv ∧ step s = .next t := by
  obtain ⟨t, ht, -⟩ :=
    of_answers (o := step { sending 0 5 with agenda := [.tick] }) (p := fun s => s.irqPending) (by decide +kernel)
  refine ⟨{ sending 0 5 with agenda := [.tick] }, t, ?_, ht⟩
  exact inv_congr sending_inv rfl (by simp [SameEngine]) (by simp [SameScanner])
theorem witness_StepsKeepParamsAndAppendToTrace : ∃ s t : State, step s = .next t ∧ s.agenda.head? ≠ some .powerOnReset := by
  obtain ⟨t, ht, -⟩ := of_answers (o := step { bench with agenda := [.clock 5] }) (p := fun _ => true) (by decide +kernel)
  exact ⟨_, t, ht, by decide +kernel⟩
theorem witness_FaultsRecordThemselves : ∃ (s : State) (f : Fault), step s = .fault f :=
  ⟨_, _, of_faultsWith (o := step { State.reset with agenda := [.call .arm] }) (f := .notConfigured [.notConfigured])
    (by decide +kernel)⟩

/-- Enabled and exactly at ISR_DEADLINE, before the last bit and at it. -/
theorem witness_PeriodElapsedAdvancesOrCompletes :
    let s : State := { sending 382 2 with irqPending := true, agenda := [.periodElapsed] }
    let e : State := { sending 383 2 with irqPending := true, agenda := [.periodElapsed] }
    s.agenda = .periodElapsed :: [] ∧ s.armed = true ∧ s.irqPending = true ∧ s.irqMasked = false ∧
      s.cnt.toNat ≤ s.params.isrDeadline ∧ s.cursor.toNat + 1 < 384 ∧ e.agenda = .periodElapsed :: [] ∧ e.armed = true ∧
      e.irqPending = true ∧ e.irqMasked = false ∧ e.cnt.toNat ≤ e.params.isrDeadline ∧ e.cursor = 383 := by decide +kernel

/-- Idle; and one tick past ISR_DEADLINE. -/
theorem witness_PeriodElapsedDisabledOrLate :
    let s : State := { bench with agenda := [.periodElapsed] }
    let l : State := { sending 382 3 with irqPending := true, agenda := [.periodElapsed] }
    s.agenda = .periodElapsed :: [] ∧ (s.armed && s.irqPending && !s.irqMasked) = false ∧ l.agenda = .periodElapsed :: [] ∧
      (l.armed && l.irqPending && !l.irqMasked) = true ∧ l.params.isrDeadline < l.cnt.toNat := by decide +kernel

/-- Stopped; inside a period; at its last tick with the last signal served, and not served. -/
theorem witness_TimerTick :
    let o : State := { bench with agenda := [.tick] }
    let s : State := { sending 0 4 with agenda := [.tick] }
    let e : State := { sending 0 5 with agenda := [.tick] }
    let l : State := { sending 0 5 with agenda := [.tick], irqPending := true }
    o.agenda = .tick :: [] ∧ o.armed = false ∧ s.agenda = .tick :: [] ∧ s.armed = true ∧ s.period = some 6 ∧
      s.cnt + 1 ≠ 6 ∧ e.agenda = .tick :: [] ∧ e.armed = true ∧ e.period = some 6 ∧ e.cnt + 1 = 6 ∧ e.irqPending = false ∧
      l.agenda = .tick :: [] ∧ l.armed = true ∧ l.period = some 6 ∧ l.cnt + 1 = 6 ∧ l.irqPending = true := by decide +kernel

/-- The first and the last tick the statement speaks of. -/
theorem witness_PulseShapeWithinAPeriod :
    ∀ k ∈ [1, 5], let s : State := { sending 0 0 with agenda := List.replicate k .tick }
      s.agenda = List.replicate k .tick ++ [] ∧ s.armed = true ∧ s.period = some 6 ∧ s.cnt = 0 ∧ 0 < k ∧
        k < (6 : U16).toNat ∧ (s.irqPending && s.cursor == 383) = false := by decide +kernel

/-- The interrupt at the start of the period and exactly at ISR_DEADLINE = 2; the last tick the statement speaks of. -/
theorem witness_PulseShapeWithinAPeriod_served :
    ∀ d ∈ [0, 2], ∃ m, ∃ s : State, s.Inv ∧ s.cursor.toNat + 1 < 384 ∧
      s.agenda = List.replicate d .tick ++ .periodElapsed :: (List.replicate m .tick ++ []) ∧ s.armed = true ∧
      s.period = some 6 ∧ s.cnt = 0 ∧ s.irqPending = true ∧ s.irqMasked = false ∧ d ≤ s.params.isrDeadline ∧
      0 < d + m ∧ d + m = 5 := by
  intro d hd
  refine ⟨5 - d, { sending 0 0 with
    irqPending := true, agenda := List.replicate d .tick ++ .periodElapsed :: (List.replicate (5 - d) .tick ++ []) },
    ?_, show (0 : U16).toNat + 1 < 384 by decide, rfl, rfl, rfl, rfl, rfl, rfl, ?_, ?_, ?_⟩
  · have h := sending_inv
    exact ⟨h.pulses, h.deadline, h.period_fixed, h.period_above, h.armed_configured, h.armed_cursor, h.armed_cmp, h.armed_table,
      fun _ p hp => Nat.lt_of_le_of_lt (Nat.zero_le 5) (h.armed_cnt rfl p hp), h.armed_pin, fun _ => rfl, h.rows_idle, h.stamped⟩
  all_goals
    obtain rfl | rfl : d = 0 ∨ d = 2 := by simpa using hd
    all_goals decide +kernel

/-- From the start of a period and from its last tick. -/
theorem witness_TicksRefinePeriodEnd :
    let s : State := { sending 7 5 with agenda := [.tick] }
    let f : State := { sending 7 0 with agenda := List.replicate 6 .tick }
    s.armed = true ∧ s.period = some 6 ∧ s.cnt < 6 ∧ s.irqPending = false ∧ s.agenda = List.replicate (6 - s.cnt.toNat) .tick ++ [] ∧
      f.armed = true ∧ f.period = some 6 ∧ f.cnt < 6 ∧ f.irqPending = false ∧ f.agenda = List.replicate (6 - f.cnt.toNat) .tick ++ [] := by
  decide +kernel
theorem witness_TransmissionIs384BitPeriods : ∃ s0 s : State, s0.armed = false ∧ s0.irqPending = false ∧
    s0.irqMasked = false ∧ s0.agenda = bitPeriods 384 ++ [] ∧ arm s0 = .next s :=
  ⟨{ bench with agenda := bitPeriods 384 ++ [] }, _, rfl, rfl, rfl, rfl,
    arm_runs (by simp [bench]) rfl fun least ticks h1 h2 => bench_ready least ticks h1 h2⟩

/-- A step that is no interrupt, and an interrupt, while ARMED. -/
theorem witness_TransmissionOwnsTheTable : (∃ s t : State, s.armed = true ∧ step s = .next t ∧
      s.agenda.head? ≠ some .powerOnReset ∧ t.cursor = s.cursor) ∧
    ∃ s t : State, s.armed = true ∧ step s = .next t ∧ s.agenda.head? ≠ some .powerOnReset ∧ t.cursor = 383 := by
  obtain ⟨t, ht, hc⟩ := of_answers (o := step { sending 7 0 with agenda := [.clock 5] })
    (p := fun s => s.cursor == 7) (by decide +kernel)
  obtain ⟨u, hu, hd⟩ := of_answers (o := step { sending 382 0 with agenda := [.periodElapsed], irqPending := true })
    (p := fun s => s.cursor == 383) (by decide +kernel)
  exact ⟨⟨_, t, rfl, ht, by decide +kernel, eq_of_beq hc⟩, ⟨_, u, rfl, hu, by decide +kernel, eq_of_beq hd⟩⟩
theorem witness_NoCancellation : ∃ s t : State, s.armed = true ∧ step s = .next t ∧
    s.agenda.head? ≠ some .powerOnReset ∧ t.armed = false := by
  obtain ⟨t, ht, hc⟩ := of_answers (o := step { sending 383 0 with agenda := [.periodElapsed], irqPending := true })
    (p := fun s => !s.armed) (by decide +kernel)
  exact ⟨_, t, rfl, ht, by decide +kernel, by simpa using hc⟩

/-- The three ways the cursor statement allows: unchanged and by one (above), and an arm while idle. -/
theorem witness_CursorDiscipline : ∃ s t : State, step s = .next t ∧ s.agenda.head? ≠ some .powerOnReset ∧
    s.armed = false ∧ t.cursor = 0 := by
  obtain ⟨t, ht, hc⟩ := of_answers (o := step { bench with agenda := [.call .arm] })
    (p := fun s => s.cursor == 0) (by decide +kernel)
  exact ⟨_, t, ht, by decide +kernel, by decide +kernel, eq_of_beq hc⟩

/-- Not due at 1299, one millisecond before the lit duration ends: nothing waiting; busy; a refresh waiting while idle. -/
theorem witness_BlinkServiceStep_not_due :
    let n : State := { blinking 1299 with agenda := [.blinkService] }
    let busy : State := { n with armed := true }
    let waiting : State := { n with blinkRefresh := true }
    ¬ (n.blinkEn = true ∧ n.blinkOnMs.setWidth 32 ≤ n.now - n.blinkT0) ∧ n.blinkPhase = .lit ∧
      n.agenda = .blinkService :: [] ∧ n.blinkRefresh = false ∧ busy.armed = true ∧ waiting.blinkRefresh = true ∧
      waiting.armed = false ∧ waiting.period ≠ none ∧ waiting.params.latchLowMin = none := by
  decide +kernel

/-- Due at 1300 exactly: busy; idle; idle and unconfigured. -/
theorem witness_BlinkServiceStep_due :
    let d : State := { blinking 1300 with agenda := [.blinkService] }
    let busy : State := { d with armed := true }
    let cold : State := { d with period := none }
    (d.blinkEn = true ∧ d.blinkOnMs.setWidth 32 ≤ d.now - d.blinkT0) ∧ d.blinkPhase = .lit ∧
      d.agenda = .blinkService :: [] ∧ busy.armed = true ∧ d.armed = false ∧ d.period ≠ none ∧
      d.params.latchLowMin = none ∧ cold.armed = false ∧ cold.period = none := by
  decide +kernel

/-- A refresh waiting while idle, one tick before LATCH_LOW_MIN = 10 has passed. -/
theorem witness_BlinkServiceStep_too_soon :
    let s : State := { timed 9 with agenda := [.blinkService], blinkRefresh := true }
    s.agenda = .blinkService :: [] ∧ s.blinkRefresh = true ∧ s.armed = false ∧ s.period ≠ none ∧
      ¬ ∀ least ticks, s.params.latchLowMin = some least → s.gap = some ticks → least ≤ ticks := by
  refine ⟨rfl, rfl, rfl, by decide +kernel, fun h => ?_⟩
  exact absurd (h 10 9 rfl rfl) (by decide)

/-- ARMED; idle and configured; UNCONFIGURED with PERIOD_TICKS the least above T1H_TICKS = 4; and with PERIOD_TICKS equal to it. -/
theorem witness_ConfigurePeriodOnlyWhileIdle :
    let a : State := { sending 0 0 with agenda := [.configurePeriod] }
    let b : State := { bench with agenda := [.configurePeriod] }
    let s : State := { b with params := { benchParams with periodTicks := 5 }, period := none }
    let e : State := { b with params := { benchParams with periodTicks := 4 }, period := none }
    a.agenda = .configurePeriod :: [] ∧ a.armed = true ∧ b.agenda = .configurePeriod :: [] ∧ b.armed = false ∧ b.period ≠ none ∧
      s.agenda = .configurePeriod :: [] ∧ s.armed = false ∧ s.period = none ∧
      (0 < s.params.t0hTicks ∧ s.params.t0hTicks < s.params.t1hTicks ∧ s.params.t1hTicks < s.params.periodTicks) ∧
      e.agenda = .configurePeriod :: [] ∧ e.armed = false ∧ e.period = none ∧
      ¬ (0 < e.params.t0hTicks ∧ e.params.t0hTicks < e.params.t1hTicks ∧ e.params.t1hTicks < e.params.periodTicks) := by
  decide +kernel
theorem witness_ConfigurePeriodOnlyWhileIdle_fixed : ∃ s t : State, s.period ≠ none ∧ step s = .next t ∧
    s.agenda.head? ≠ some .powerOnReset := by
  obtain ⟨t, ht, -⟩ := of_answers (o := step { sending 0 0 with agenda := [.tick] }) (p := fun _ => true) (by decide +kernel)
  exact ⟨_, t, by simp [sending, bench], ht, by simp⟩

/-- Ids 15 and 16 are the two sides of the range (D32): the hypotheses of the statements about direct calls. -/
theorem witness_ids : (15 : Nat) < 16 ∧ 16 ≤ (16 : Nat) := by decide
theorem test_ids : answers (callOp (.getColor 15) bench) (fun s => s.ret == .color black) = true ∧
    refusesWith (callOp (.getColor 16) bench) (.idOutOfRange 16) = true ∧
    answers (callOp (.setMaskBit 15 false) bench) (fun s => s.mask == 0x7FFF) = true ∧
    answers (callOp (.getButton 1) { bench with deb := 2 }) (fun s => s.ret == .button true) = true := by decide +kernel
theorem witness_ScanDebouncesEachBit : ∃ s t : State, s.agenda = scanOf 1 :: [] ∧ step s = .next t := by
  obtain ⟨t, ht, -⟩ := of_answers (o := step { bench with agenda := [scanOf 1] }) (p := fun _ => true) (by decide +kernel)
  exact ⟨_, t, rfl, ht⟩
theorem witness_ZeroDelayPublishesAtOnce :
    let s : State := { bench with agenda := [scanOf 1] }
    s.agenda = scanOf 1 :: [] ∧ s.delay = 0 := by decide +kernel

/-- L2.7: DELAY = 5, the change at 100, a scan at 104 (not due) and one at 105 (due). -/
theorem witness_CommitLaw :
    let s : State := { bench with delay := 5 }
    (1 : U16).getLsbD 0 ≠ s.raw.getLsbD 0 ∧ (1 : U16).getLsbD 0 ≠ s.deb.getLsbD 0 ∧
      (∀ x ∈ ([(104, 1)] : List (U32 × U16)), x.2.getLsbD 0 = (1 : U16).getLsbD 0) ∧
      ¬ s.delay.setWidth 32 ≤ (100 : U32) - 100 ∧ ¬ s.delay.setWidth 32 ≤ (104 : U32) - 100 ∧
      s.delay.setWidth 32 ≤ (105 : U32) - 100 ∧ (0 : U16).getLsbD 0 ≠ (1 : U16).getLsbD 0 := by
  refine ⟨by decide +kernel, by decide +kernel, ?_, by decide +kernel, by decide +kernel, by decide +kernel, by decide⟩
  intro x hx
  rw [List.mem_singleton.1 hx]
theorem witness_OnlyScansWriteTheButtons : ∃ s t : State, step s = .next t ∧
    (∀ inp, s.agenda.head? ≠ some (.scan inp)) ∧ s.agenda.head? ≠ some .powerOnReset := by
  obtain ⟨t, ht, -⟩ := of_answers (o := step { bench with agenda := [.clock 5] }) (p := fun _ => true) (by decide +kernel)
  exact ⟨_, t, ht, by simp, by simp⟩
theorem witness_BusReadServesTheSlot :
    let s : State := { bench with agenda := [.busRead], reads := [3], rp := .buttons 0x0201 }
    s.agenda = .busRead :: [] ∧ s.reads = 3 :: [] ∧ (s.armed && s.irqPending && !s.irqMasked) = false ∧
      s.rp = .buttons 0x0201 ∧ ({ s with rp := .idle } : State).rp = .idle := by decide +kernel

/-- A QUERY, then a scan and the request of the read, then the read. -/
theorem witness_QueryThenReadLaw : ∃ (s s1 t : State), exec (.query []) s = .next s1 ∧
    (∀ bytes ∈ s1.rx, keepsSlot bytes = true) ∧ (∀ e ∈ s1.agenda, eventKeepsSlot e = true) ∧
    Sys2Proof.core.run 2 s1 = .next t ∧ t.reads = 2 :: [] := by
  obtain ⟨s1, h1, hp⟩ := of_answers (o := exec (.query []) { bench with deb := 1, agenda := [scanOf 3, .hostRead 2] })
    (p := fun u => u.rx.all keepsSlot && u.agenda.all eventKeepsSlot &&
      answers (Sys2Proof.core.run 2 u) fun t => t.reads == [2]) (by decide +kernel)
  simp only [Bool.and_eq_true, List.all_eq_true] at hp
  obtain ⟨t, ht, hr⟩ := of_answers hp.2
  exact ⟨_, s1, t, h1, hp.1.1, hp.1.2, ht, eq_of_beq hr⟩

end Sys2Proof.Tests
end

section
/-! O35 (00_scope.md R10, 10_state.md R60): no step changes a parameter, and only a power-on reset shortens the trace. One lemma per
agent, each from what the model's laws say the agent can do; the events and the step are assembled from them. -/

namespace Sys2Proof.Machine

/-- From `s` to `t` the parameters are kept (R10) and TRACE has only been appended to (R60). -/
def KeepsParamsExtendsTrace (s t : State) : Prop := t.params = s.params ∧ s.trace <+: t.trace

/-! ### The relation -/

theorem KeepsParamsExtendsTrace.of_eq {s t : State} (hp : t.params = s.params) (ht : t.trace = s.trace) :
    KeepsParamsExtendsTrace s t := ⟨hp, ht ▸ List.prefix_rfl⟩

theorem KeepsParamsExtendsTrace.of_append {s t : State} (hp : t.params = s.params) (records : List Record)
    (ht : t.trace = s.trace ++ records) : KeepsParamsExtendsTrace s t := ⟨hp, ht ▸ List.prefix_append _ _⟩

theorem KeepsParamsExtendsTrace.trans {s u t : State} (hsu : KeepsParamsExtendsTrace s u)
    (hut : KeepsParamsExtendsTrace u t) : KeepsParamsExtendsTrace s t :=
  ⟨hut.1.trans hsu.1, hsu.2.trans hut.2⟩

/-! ### The transmitter's agents -/

/-- An arm records RearmBusy or nothing (R160). -/
theorem arm_keepsParams_extendsTrace {s t : State} (h : arm s = .next t) : KeepsParamsExtendsTrace s t := by
  obtain ⟨-, ⟨-, rfl⟩ | ⟨-, -, rfl⟩⟩ := arm_cases h
  · exact .of_append rfl _ rfl
  · exact .of_eq (startTransmission_params s) (startTransmission_trace s)

theorem periodElapsed_keepsParams_extendsTrace {s t : State} (h : periodElapsed s = .next t) :
    KeepsParamsExtendsTrace s t := by
  obtain ⟨-, -, -, -, h⟩ := periodElapsed_cases h
  obtain ⟨-, rfl⟩ | ⟨-, rfl⟩ := advanceCursor_cases h
  · exact .of_eq rfl rfl
  · exact .of_eq rfl rfl

theorem timerTick_keepsParams_extendsTrace {s t : State} (h : timerTick s = .next t) : KeepsParamsExtendsTrace s t := by
  obtain ⟨-, rfl⟩ | ⟨_, -, -, ⟨-, rfl⟩ | ⟨-, -, rfl⟩⟩ := timerTick_cases h
  · exact .of_eq rfl rfl
  · exact .of_eq rfl rfl
  · exact .of_eq rfl rfl

theorem periodEnd_keepsParams_extendsTrace {s t : State} (h : periodEnd s = .next t) : KeepsParamsExtendsTrace s t := by
  obtain ⟨_, -, -, -, rfl⟩ := periodEnd_cases h
  exact .of_eq rfl rfl

theorem configurePeriod_keepsParams_extendsTrace {s t : State} {ticks : U16} (h : configurePeriod ticks s = .next t) :
    KeepsParamsExtendsTrace s t := by
  obtain ⟨-, -, -, rfl⟩ := configurePeriod_cases h
  exact .of_eq rfl rfl

theorem blinkPhaseStep_keepsParams_extendsTrace (s : State) : KeepsParamsExtendsTrace s (blinkPhaseStep s) := by
  obtain ⟨_, _, _, hs⟩ := blinkPhaseStep_eq s
  rw [hs]
  exact .of_eq rfl rfl

theorem blinkService_keepsParams_extendsTrace {s t : State} (h : blinkService s = .next t) :
    KeepsParamsExtendsTrace s t := by
  have hphase := blinkPhaseStep_keepsParams_extendsTrace s
  obtain rfl | ⟨u, -, harm, rfl⟩ := blinkService_cases h
  · exact hphase
  · exact (hphase.trans (arm_keepsParams_extendsTrace harm)).trans (.of_eq rfl rfl)

/-! ### The bus, the scanner and the direct calls -/

/-- A command appends its underrun, its own record and its surplus (R281, R283). -/
theorem exec_keepsParams_extendsTrace {i : Instr} {s t : State} (h : exec i s = .next t) :
    KeepsParamsExtendsTrace s t := by
  obtain ⟨u, heffect, rfl⟩ := exec_cases h
  have hread : KeepsParamsExtendsTrace s (readPayload i.opcode (requiredLen i s) i.payload s) := by
    rw [readPayload_eq]
    exact .of_append rfl _ rfl
  obtain ⟨-, ⟨-, -, hparams⟩, -, htrace, -⟩ := commandEffect_frame i _ heffect
  exact (hread.trans ⟨hparams, htrace⟩).trans (.of_append rfl _ rfl)

theorem dispatch_keepsParams_extendsTrace {s t : State} (h : dispatch s = .next t) : KeepsParamsExtendsTrace s t := by
  obtain ⟨_, _, rest, -, hexec⟩ := dispatch_cases h
  exact .trans (u := { s with rx := rest }) (.of_eq rfl rfl) (exec_keepsParams_extendsTrace hexec)

theorem busRead_keepsParams_extendsTrace {s t : State} (h : busRead s = .next t) : KeepsParamsExtendsTrace s t := by
  obtain ⟨k, rest, -, rfl⟩ := busRead_cases h
  obtain ⟨_, _, records, hread⟩ := serveRead_eq k { s with reads := rest }
  rw [hread]
  exact .of_append rfl records rfl

theorem hostWrite_keepsParams_extendsTrace {s t : State} {sent : List Byte} (h : hostWrite sent s = .next t) :
    KeepsParamsExtendsTrace s t := by
  obtain ⟨-, rfl⟩ := hostWrite_cases h
  exact .of_eq rfl rfl

theorem scan_keepsParams_extendsTrace (inp : ScanInput) (s : State) : KeepsParamsExtendsTrace s (scan inp s) := by
  rw [scan_eq]
  exact .of_eq rfl rfl

theorem callOp_keepsParams_extendsTrace {op : BlockOp} {s t : State} (h : callOp op s = .next t) :
    KeepsParamsExtendsTrace s t := by
  obtain ⟨-, u, _, harm, rfl⟩ | ⟨-, -, ⟨-, -, hparams⟩, -, htrace, -⟩ := callOp_cases h
  · exact (arm_keepsParams_extendsTrace harm).trans (.of_eq rfl rfl)
  · exact .of_eq hparams htrace

/-! ### The events and the step -/

theorem runEvent_keepsParams_extendsTrace {e : Event} {s t : State} (h : runEvent e s = .next t)
    (hne : e ≠ .powerOnReset) : KeepsParamsExtendsTrace s t := by
  cases e with
  | hostWrite sent => exact hostWrite_keepsParams_extendsTrace h
  | dispatch => exact dispatch_keepsParams_extendsTrace h
  | blinkService => exact blinkService_keepsParams_extendsTrace h
  | call op => exact callOp_keepsParams_extendsTrace h
  | busRead => exact busRead_keepsParams_extendsTrace h
  | tick => exact timerTick_keepsParams_extendsTrace h
  | periodEnd => exact periodEnd_keepsParams_extendsTrace h
  | periodElapsed => exact periodElapsed_keepsParams_extendsTrace h
  | configurePeriod => exact configurePeriod_keepsParams_extendsTrace h
  | scan inp => cases h; exact scan_keepsParams_extendsTrace inp s
  | hostRead _ | clock _ | contacts _ | disableInterrupt | enableInterrupt | pullLow => cases h; exact .of_eq rfl rfl
  | powerOnReset => exact absurd rfl hne

/-- A power-on reset takes the parameters over as they are (R320). -/
theorem powerOnReset_params (s : State) : (powerOnReset s).params = s.params := rfl

theorem runEvent_params {e : Event} {s t : State} (h : runEvent e s = .next t) : t.params = s.params := by
  by_cases he : e = .powerOnReset
  · subst he
    cases h
    exact powerOnReset_params s
  · exact (runEvent_keepsParams_extendsTrace h he).1

theorem step_params {s t : State} (h : step s = .next t) : t.params = s.params := by
  obtain ⟨-, rfl⟩ | ⟨_, _, -, -, hirq⟩ | ⟨_, _, -, hrun⟩ := step_cases h
  · rfl
  · exact (periodElapsed_keepsParams_extendsTrace hirq).1
  · have hparams := runEvent_params hrun
    exact hparams

theorem step_extendsTrace {s t : State} (h : step s = .next t) (hne : s.agenda.head? ≠ some .powerOnReset) :
    s.trace <+: t.trace := by
  obtain ⟨-, rfl⟩ | ⟨_, _, -, -, hirq⟩ | ⟨e, later, hagenda, hrun⟩ := step_cases h
  · exact List.prefix_rfl
  · exact (periodElapsed_keepsParams_extendsTrace hirq).2
  · have he : e ≠ .powerOnReset := by simpa [hagenda] using hne
    have hkept := runEvent_keepsParams_extendsTrace hrun he
    exact hkept.2

/-- Settles O35, by the agents' lemmas on each case of `step_cases`. -/
theorem stepsKeepParamsAndAppendToTrace : Obligations.StepsKeepParamsAndAppendToTrace :=
  fun _ _ h => ⟨step_params h, step_extendsTrace h⟩

end Sys2Proof.Machine
end

section
/-! The invariant of 10_state.md R64 and what its neighbours say of a step: O33, O34, O43, O45, O47, O57. What one step can do
to the transmitter engine and to the scanner is said once, in `step_blockStep`; each statement is then a case split over `BlockStep`. -/

namespace Sys2Proof.Machine

/-! ### The part of the state the invariant speaks of -/

/-- From `s` to `t` the parameters, the transmitter engine and the scanner's measured state are kept. -/
def SameBlock (s t : State) : Prop := t.params = s.params ∧ SameEngine s t ∧ SameScanner s t

/-- Also for a `t` that differs from `s` in other fields only: the two statements are the same by unfolding. -/
theorem SameBlock.refl (s : State) : SameBlock s s := by
  simp [SameBlock, SameEngine, SameScanner]

theorem SameBlock.trans {s u t : State} (hsu : SameBlock s u) (hut : SameBlock u t) : SameBlock s t := by
  simp_all [SameBlock, SameEngine, SameScanner]

theorem SameBlock.inv {s t : State} (h : SameBlock s t) (hs : s.Inv) : t.Inv := by
  obtain ⟨hparams, hengine, hscanner⟩ := h
  exact inv_congr hs hparams hengine hscanner

theorem readPayload_sameBlock (op : Byte) (L : Nat) (pay : List Byte) (s : State) :
    SameBlock s (readPayload op L pay s) := by
  rw [readPayload_eq]
  exact SameBlock.refl s

theorem serveRead_sameBlock (k : Nat) (s : State) : SameBlock s (serveRead k s) := by
  obtain ⟨_, _, _, hread⟩ := serveRead_eq k s
  rw [hread]
  exact SameBlock.refl s

theorem blinkPhaseStep_sameBlock (s : State) : SameBlock s (blinkPhaseStep s) := by
  obtain ⟨_, _, _, hphase⟩ := blinkPhaseStep_eq s
  rw [hphase]
  exact SameBlock.refl s

/-! ### The agents that keep the block or start a transmission (R160) -/

/-- From `s` to `t` the block is kept, but for at most one accepted arm. -/
def KeepsOrStarts (s t : State) : Prop :=
  SameBlock s t ∨ ∃ u, u.armed = false ∧ u.period ≠ none ∧ SameBlock s u ∧ SameBlock (startTransmission u) t

theorem KeepsOrStarts.of_sameBlock {s t : State} (h : SameBlock s t) : KeepsOrStarts s t := .inl h

theorem KeepsOrStarts.between {s s' t' t : State} (hs : SameBlock s s') (h : KeepsOrStarts s' t')
    (ht : SameBlock t' t) : KeepsOrStarts s t := by
  obtain hsame | ⟨u, hidle, hconfigured, hu, hstart⟩ := h
  · exact .inl ((hs.trans hsame).trans ht)
  · exact .inr ⟨u, hidle, hconfigured, hs.trans hu, hstart.trans ht⟩

theorem arm_keepsOrStarts {s t : State} (h : arm s = .next t) : KeepsOrStarts s t := by
  obtain ⟨hconfigured, ⟨-, rfl⟩ | ⟨hidle, -, rfl⟩⟩ := arm_cases h
  · exact .inl (SameBlock.refl s)
  · exact .inr ⟨s, hidle, hconfigured, SameBlock.refl s, SameBlock.refl _⟩

theorem commandEffect_keepsOrStarts {i : Instr} {bytes : List Byte} {s t : State}
    (h : commandEffect i bytes s = .next t) : KeepsOrStarts s t := by
  obtain ⟨hscanner, ⟨-, -, hparams⟩, hengine, -, -, -, -, harm, -⟩ := commandEffect_frame i bytes h
  by_cases hcommit : ∃ pay, i = .commit pay
  · obtain ⟨pay, hi⟩ := hcommit
    exact arm_keepsOrStarts (harm pay hi)
  · exact .inl ⟨hparams, hengine fun pay hi => hcommit ⟨pay, hi⟩, hscanner⟩

theorem dispatch_keepsOrStarts {s t : State} (h : dispatch s = .next t) : KeepsOrStarts s t := by
  obtain ⟨_, _, rest, -, hexec⟩ := dispatch_cases h
  obtain ⟨u, heffect, rfl⟩ := exec_cases hexec
  have hpopped : SameBlock s { s with rx := rest } := SameBlock.refl s
  exact (commandEffect_keepsOrStarts heffect).between (hpopped.trans (readPayload_sameBlock _ _ _ _)) (SameBlock.refl u)

theorem callOp_keepsOrStarts {op : BlockOp} {s t : State} (h : callOp op s = .next t) : KeepsOrStarts s t := by
  obtain ⟨-, u, _, harm, rfl⟩ | ⟨hengine, hscanner, ⟨-, -, hparams⟩, -⟩ := callOp_cases h
  · exact (arm_keepsOrStarts harm).between (SameBlock.refl s) (SameBlock.refl u)
  · exact .inl ⟨hparams, hengine, hscanner⟩

theorem blinkService_keepsOrStarts {s t : State} (h : blinkService s = .next t) : KeepsOrStarts s t := by
  have hphase := blinkPhaseStep_sameBlock s
  obtain rfl | ⟨u, -, harm, rfl⟩ := blinkService_cases h
  · exact .inl hphase
  · exact (arm_keepsOrStarts harm).between hphase (SameBlock.refl u)

theorem busRead_sameBlock {s t : State} (h : busRead s = .next t) : SameBlock s t := by
  obtain ⟨k, rest, -, rfl⟩ := busRead_cases h
  exact serveRead_sameBlock k { s with reads := rest }

theorem hostWrite_sameBlock {sent : List Byte} {s t : State} (h : hostWrite sent s = .next t) : SameBlock s t := by
  obtain ⟨-, rfl⟩ := hostWrite_cases h
  exact SameBlock.refl s

/-! ### The pulse generator (R166) and the line -/

/-- From `s` to `t` only the timer, the line and the interrupt's signal move: while ARMED, CNT stays below the period and the line
driven, and a signal is raised while ARMED only. -/
def MovesWave (s t : State) : Prop :=
  ∃ cnt pin pending masked gap,
    t = { s with cnt := cnt, pin := pin, irqPending := pending, irqMasked := masked, gap := gap } ∧
    (s.armed = true → ∀ p, s.period = some p → s.cnt < p → cnt < p) ∧
    (s.armed = true → s.pin ≠ .hiz → pin ≠ .hiz) ∧
    (pending = true → s.irqPending = true ∨ s.armed = true)

theorem tickLevel_ne_hiz (s : State) (c : U16) : tickLevel s c ≠ .hiz := by
  unfold tickLevel
  split
  · simp
  · split <;> simp

theorem enablePin_ne_hiz (p : Pin) : enablePin p ≠ .hiz := by
  cases p <;> simp [enablePin]

theorem timerTick_movesWave {s t : State} (h : timerTick s = .next t) : MovesWave s t := by
  obtain ⟨hidle, rfl⟩ | ⟨p, harmed, hperiod, ⟨hinside, rfl⟩ | ⟨-, -, rfl⟩⟩ := timerTick_cases h
  · exact ⟨_, _, _, _, _, rfl, fun _ _ _ hcnt => hcnt, fun _ hpin => hpin, .inl⟩
  · refine ⟨_, _, _, _, _, rfl, fun _ q hq hcnt => ?_, fun _ _ => tickLevel_ne_hiz _ _, .inl⟩
    obtain rfl : p = q := Option.some.inj (hperiod.symm.trans hq)
    bv_omega
  · exact ⟨_, _, _, _, _, rfl, fun _ q _ hcnt => by bv_omega, fun _ _ => tickLevel_ne_hiz _ _, fun _ => .inr harmed⟩

theorem periodEnd_movesWave {s t : State} (h : periodEnd s = .next t) : MovesWave s t := by
  obtain ⟨p, harmed, -, -, rfl⟩ := periodEnd_cases h
  exact ⟨_, _, _, _, _, rfl, fun _ q _ hcnt => by bv_omega, fun _ _ => tickLevel_ne_hiz _ _, fun _ => .inr harmed⟩

theorem pullLow_movesWave (s : State) : MovesWave s (pullLow s) :=
  ⟨_, _, _, _, _, rfl, fun _ _ _ hcnt => hcnt, fun _ _ => enablePin_ne_hiz _, .inl⟩

theorem setMasked_movesWave (masked : Bool) (s : State) : MovesWave s { s with irqMasked := masked } :=
  ⟨_, _, _, _, _, rfl, fun _ _ _ hcnt => hcnt, fun _ hpin => hpin, .inl⟩

/-! ### The interrupt does not read the schedule -/

/-- PERIOD_ELAPSED does the same under every agenda, and keeps it. -/
theorem periodElapsed_withAgenda {s t : State} (h : periodElapsed s = .next t) (a : List Event) :
    periodElapsed { s with agenda := a } = .next { t with agenda := a } := by
  obtain ⟨harmed, hpending, hmasked, hdue, hbody⟩ := periodElapsed_cases h
  have henabled : periodElapsedEnabled { s with agenda := a } = true := by
    simp [periodElapsedEnabled, harmed, hpending, hmasked]
  rw [periodElapsed_runs _ henabled hdue]
  obtain ⟨hlast, rfl⟩ | ⟨hlt, rfl⟩ := advanceCursor_cases hbody
  · exact advanceCursor_of_last _ hlast
  · exact (advanceCursor_of_lt (enterPeriodElapsed { s with agenda := a }) hlt).trans rfl

/-! ### What one step can do -/

/-- What the step of a pick can do to the block: the case the pick falls under. -/
inductive BlockStep (pick : Option Event) (s t : State) : Prop where
  | software (h : KeepsOrStarts s t)
  | wave (h : MovesWave s t)
  | interrupt (h : periodElapsed s = .next t)
  | configure (h : configurePeriod s.params.periodTicks s = .next t)
  | scan (inp : ScanInput) (hpick : pick = some (.scan inp)) (h : t = scan inp s)
  | powerOn (hpick : pick = some .powerOnReset) (h : t = powerOnReset s)

theorem runEvent_blockStep {e : Event} {s t : State} (h : runEvent e s = .next t) : BlockStep (some e) s t := by
  cases e with
  | hostWrite sent => exact .software (.of_sameBlock (hostWrite_sameBlock h))
  | busRead => exact .software (.of_sameBlock (busRead_sameBlock h))
  | dispatch => exact .software (dispatch_keepsOrStarts h)
  | blinkService => exact .software (blinkService_keepsOrStarts h)
  | call op => exact .software (callOp_keepsOrStarts h)
  | hostRead _ | clock _ | contacts _ => cases h; exact .software (.of_sameBlock (SameBlock.refl s))
  | tick => exact .wave (timerTick_movesWave h)
  | periodEnd => exact .wave (periodEnd_movesWave h)
  | pullLow => cases h; exact .wave (pullLow_movesWave s)
  | disableInterrupt | enableInterrupt => cases h; exact .wave (setMasked_movesWave _ s)
  | periodElapsed => exact .interrupt h
  | configurePeriod => exact .configure h
  | scan inp => cases h; exact .scan inp rfl rfl
  | powerOnReset => cases h; exact .powerOn rfl rfl

/-- A step is its pick's, taken off the agenda; a preceding interrupt leaves the pick (R285), and with no pick nothing moves. -/
theorem step_blockStep {s t : State} (h : step s = .next t) :
    ∃ later, BlockStep s.agenda.head? { s with agenda := later } t := by
  obtain ⟨-, rfl⟩ | ⟨_, _, -, -, hirq⟩ | ⟨e, later, hagenda, hrun⟩ := step_cases h
  · exact ⟨t.agenda, .software (.of_sameBlock (SameBlock.refl t))⟩
  · exact ⟨s.agenda, .interrupt hirq⟩
  · refine ⟨later, ?_⟩
    rw [hagenda]
    exact runEvent_blockStep hrun

/-! ### Every case keeps the invariant (R64) -/

theorem buildTable_entry (s : State) (p : Fin 384) :
    (buildTable s)[p] = s.params.t0hTicks ∨ (buildTable s)[p] = s.params.t1hTicks := by
  have hentry := buildTable_getElem s p.val p.isLt
  rw [Fin.getElem_fin, hentry]
  split
  · exact .inr rfl
  · exact .inl rfl

theorem startTransmission_inv {s : State} (hs : s.Inv) (hconfigured : s.period ≠ none) : (startTransmission s).Inv where
  pulses := by simpa using hs.pulses
  deadline := by simpa using hs.deadline
  period_fixed := by simpa using hs.period_fixed
  period_above := by simpa using hs.period_above
  armed_configured := by simp [hconfigured]
  armed_cursor := by simp
  armed_cmp := by simp
  armed_table := by simpa using buildTable_entry s
  armed_cnt := by
    intro _ p hp
    have habove := hs.period_above p (by simpa using hp)
    rw [startTransmission_cnt]
    bv_omega
  armed_pin := by simp [enablePin_ne_hiz]
  pending_armed := by simp
  rows_idle := by simp [hs.rows_idle]
  stamped := by simpa using hs.stamped

theorem KeepsOrStarts.inv {s t : State} (h : KeepsOrStarts s t) (hs : s.Inv) : t.Inv := by
  obtain hsame | ⟨u, -, hconfigured, hu, hstart⟩ := h
  · exact hsame.inv hs
  · exact hstart.inv (startTransmission_inv (hu.inv hs) hconfigured)

theorem MovesWave.inv {s t : State} (h : MovesWave s t) (hs : s.Inv) : t.Inv := by
  obtain ⟨cnt, pin, pending, masked, gap, rfl, hcnt, hpin, hpending⟩ := h
  exact { hs with
    armed_cnt := fun ha p hp => hcnt ha p hp (hs.armed_cnt ha p hp)
    armed_pin := fun ha => hpin ha (hs.armed_pin ha)
    pending_armed := fun hp => (hpending hp).elim hs.pending_armed id }

/-- The completing interrupt leaves the block idle (R163). -/
theorem completeTransmission_inv {s : State} (hs : s.Inv) (hserved : s.irqPending = false) (cursor : U16) :
    (completeTransmission { s with cursor := cursor }).Inv :=
  { hs with
    armed_configured := nofun
    armed_cursor := nofun
    armed_cmp := nofun
    armed_table := nofun
    armed_cnt := nofun
    armed_pin := nofun
    pending_armed := fun hpending => absurd (hserved.symm.trans hpending) (by decide) }

/-- Before the last bit the interrupt loads the next table entry (R163, R164). -/
theorem loadNextEntry_inv {s : State} (hs : s.Inv) (hlt : s.cursor.toNat + 1 < 384) :
    (loadNextPulseWidth s.table[s.cursor.toNat + 1] { s with cursor := s.cursor + 1 }).Inv :=
  { hs with
    armed_cursor := fun _ => show s.cursor + 1 < 384 by bv_omega
    armed_cmp := fun _ => by
      have hnext : (s.cursor + 1).toNat = s.cursor.toNat + 1 := by bv_omega
      show s.table[(s.cursor + 1).toNat]? = some s.table[s.cursor.toNat + 1]
      rw [hnext]
      exact Vector.getElem?_eq_getElem hlt }

theorem enterPeriodElapsed_inv {s : State} (hs : s.Inv) : (enterPeriodElapsed s).Inv :=
  { hs with pending_armed := nofun }

theorem periodElapsed_inv {s t : State} (h : periodElapsed s = .next t) (hs : s.Inv) : t.Inv := by
  obtain ⟨-, -, -, -, hbody⟩ := periodElapsed_cases h
  have hentered := enterPeriodElapsed_inv hs
  obtain ⟨-, rfl⟩ | ⟨hlt, rfl⟩ := advanceCursor_cases hbody
  · exact completeTransmission_inv hentered rfl 384
  · exact loadNextEntry_inv hentered hlt

theorem configurePeriod_inv {s t : State} (h : configurePeriod s.params.periodTicks s = .next t) (hs : s.Inv) :
    t.Inv := by
  obtain ⟨hidle, -, hadmits, rfl⟩ := configurePeriod_cases h
  obtain ⟨-, -, habove⟩ := (admitsPeriod_iff _ _).1 hadmits
  exact { hs with
    period_fixed := fun _ hp => (Option.some.inj hp).symm
    period_above := fun _ hp => Option.some.inj hp ▸ habove
    armed_configured := nofun
    armed_cnt := fun ha => absurd (hidle.symm.trans ha) (by decide) }

/-- A debounced bit that still differs from the raw one was stamped by this scan or differed before it (R202). -/
theorem debounce_stamped {s : State} (hs : s.Inv) (t : U32) (raw : U16) (id : Fin 16)
    (hdiffers : raw.getLsbD id.val ≠ (newDeb t raw s).getLsbD id.val) :
    (s.lastWritten ||| (raw ^^^ s.raw)).getLsbD id.val = true := by
  rw [BitVec.getLsbD_or, BitVec.getLsbD_xor]
  by_cases hchanged : raw.getLsbD id.val = s.raw.getLsbD id.val
  · have hpending : s.raw.getLsbD id.val ≠ s.deb.getLsbD id.val := by
      rw [newDeb_getLsbD] at hdiffers
      split at hdiffers
      · exact absurd rfl hdiffers
      · rwa [← hchanged]
    rw [hs.stamped id hpending, Bool.true_or]
  · rw [Bool.or_eq_true, bne_iff_ne]
    exact .inr hchanged

theorem debounce_inv {s : State} (hs : s.Inv) (t : U32) (raw : U16) : (debounce t raw s).Inv :=
  { hs with stamped := debounce_stamped hs t raw }

theorem scan_inv {s : State} (hs : s.Inv) (inp : ScanInput) : (scan inp s).Inv := by
  rw [scan_eq]
  have hsampled : State.Inv { s with keys := keysAtRow inp s.keys 3, rowDrive := none, draws := s.draws + 16 } :=
    { hs with rows_idle := rfl }
  exact debounce_inv hsampled s.now _

/-- After a power-on reset nothing is configured, sent, pending or stamped, so only the parameters count (R320). -/
theorem powerOn_inv {params : Params} (hpulses : 0 < params.t0hTicks ∧ params.t0hTicks < params.t1hTicks)
    (hdeadline : params.isrDeadline ≤ params.t0hTicks.toNat) (agenda : List Event) (keys : U16) (n : Nat) :
    (State.powerOn params agenda keys n).Inv where
  pulses := hpulses
  deadline := hdeadline
  period_fixed := nofun
  period_above := nofun
  armed_configured := nofun
  armed_cursor := nofun
  armed_cmp := nofun
  armed_table := nofun
  armed_cnt := nofun
  armed_pin := nofun
  pending_armed := nofun
  rows_idle := rfl
  stamped := fun _ hdiffers => absurd rfl hdiffers

theorem BlockStep.inv {pick : Option Event} {s t : State} (h : BlockStep pick s t) (hs : s.Inv) : t.Inv := by
  cases h with
  | software h => exact h.inv hs
  | wave h => exact h.inv hs
  | interrupt h => exact periodElapsed_inv h hs
  | configure h => exact configurePeriod_inv h hs
  | scan inp _ h => exact h ▸ scan_inv hs inp
  | powerOn _ h => exact h ▸ powerOn_inv hs.pulses hs.deadline _ _ _

/-- Settles O34, by the case `BlockStep` puts the step in. -/
theorem stepKeepsTheInvariant : Obligations.StepKeepsTheInvariant := by
  intro s t hs h
  obtain ⟨later, hblock⟩ := step_blockStep h
  have hpopped : SameBlock s { s with agenda := later } := SameBlock.refl s
  exact hblock.inv (hpopped.inv hs)

/-- Settles O33: the open parameters of the reset state are in the invariant's order, whatever they are. -/
theorem resetMeetsTheInvariant : Obligations.ResetMeetsTheInvariant := by
  obtain ⟨hpos, hlt, habove, hbound⟩ := openTicks_ordered
  have hdeadline := openIsrDeadline_le
  have ht0h : defaultParams.t0hTicks.toNat = openT0h := Nat.mod_eq_of_lt (by omega)
  have ht1h : defaultParams.t1hTicks.toNat = openT1h := Nat.mod_eq_of_lt (by omega)
  refine powerOn_inv ⟨?_, ?_⟩ ?_ _ _ _
  · rw [BitVec.lt_def, ht0h]
    exact hpos
  · rw [BitVec.lt_def, ht0h, ht1h]
    exact hlt
  · rw [ht0h]
    exact hdeadline

/-! ### The scanner's words (R88) -/

theorem KeepsOrStarts.sameScanner {s t : State} (h : KeepsOrStarts s t) : SameScanner s t := by
  obtain ⟨-, -, hsame⟩ | ⟨u, -, -, ⟨-, -, hu⟩, -, -, hstart⟩ := h
  · exact hsame
  · simp_all [SameScanner]

theorem MovesWave.sameScanner {s t : State} (h : MovesWave s t) : SameScanner s t := by
  obtain ⟨_, _, _, _, _, rfl, -⟩ := h
  exact (SameBlock.refl s).2.2

theorem periodElapsed_sameScanner {s t : State} (h : periodElapsed s = .next t) : SameScanner s t := by
  obtain ⟨-, -, -, -, hbody⟩ := periodElapsed_cases h
  obtain ⟨-, rfl⟩ | ⟨-, rfl⟩ := advanceCursor_cases hbody
  · exact (SameBlock.refl s).2.2
  · exact (SameBlock.refl s).2.2

theorem configurePeriod_sameScanner {ticks : U16} {s t : State} (h : configurePeriod ticks s = .next t) :
    SameScanner s t := by
  obtain ⟨-, -, -, rfl⟩ := configurePeriod_cases h
  exact (SameBlock.refl s).2.2

theorem BlockStep.sameScanner {pick : Option Event} {s t : State} (h : BlockStep pick s t)
    (hscan : ∀ inp, pick ≠ some (.scan inp)) (hpower : pick ≠ some .powerOnReset) : SameScanner s t := by
  cases h with
  | software h => exact h.sameScanner
  | wave h => exact h.sameScanner
  | interrupt h => exact periodElapsed_sameScanner h
  | configure h => exact configurePeriod_sameScanner h
  | scan inp hpick _ => exact absurd hpick (hscan inp)
  | powerOn hpick _ => exact absurd hpick hpower

/-- Settles O57, by the case `BlockStep` puts the step in. -/
theorem onlyScansWriteTheButtons : Obligations.OnlyScansWriteTheButtons := by
  intro s t h hscan hpower
  obtain ⟨_, hblock⟩ := step_blockStep h
  exact hblock.sameScanner hscan hpower

/-! ### The transmission in flight: TABLE, CURSOR, CMP and PERIOD (R64.3, R64.4, R43) -/

/-- From `s` to `t` the transmission in flight is the same and stands at the same bit. -/
def SameTransmission (s t : State) : Prop :=
  t.table = s.table ∧ t.armed = s.armed ∧ t.cursor = s.cursor ∧ t.cmp = s.cmp ∧ t.period = s.period

/-- What a step other than a power-on reset can do to the transmission in flight. -/
inductive TransmissionStep (s t : State) : Prop where
  | kept (h : SameTransmission s t)
  | started (hidle : s.armed = false) (harmed : t.armed = true) (hcursor : t.cursor = 0) (hperiod : t.period = s.period)
  | interrupted (h : periodElapsed s = .next { t with agenda := s.agenda })
  | configured (hidle : s.armed = false) (hperiod : s.period = none) (hcursor : t.cursor = s.cursor)

theorem SameBlock.sameTransmission {s t : State} (h : SameBlock s t) : SameTransmission s t := by
  obtain ⟨-, ⟨htable, harmed, hcursor, hcmp, -, hperiod, -⟩, -⟩ := h
  exact ⟨htable, harmed, hcursor, hcmp, hperiod⟩

theorem KeepsOrStarts.transmissionStep {s t : State} (h : KeepsOrStarts s t) : TransmissionStep s t := by
  obtain hsame | ⟨u, hidle, -, hu, hstart⟩ := h
  · exact .kept hsame.sameTransmission
  · obtain ⟨-, harmedU, -, -, hperiodU⟩ := hu.sameTransmission
    obtain ⟨-, harmed, hcursor, -, hperiod⟩ := hstart.sameTransmission
    rw [startTransmission_armed] at harmed
    rw [startTransmission_cursor] at hcursor
    rw [startTransmission_period] at hperiod
    exact .started (harmedU.symm.trans hidle) harmed hcursor (hperiod.trans hperiodU)

theorem MovesWave.sameTransmission {s t : State} (h : MovesWave s t) : SameTransmission s t := by
  obtain ⟨_, _, _, _, _, rfl, -⟩ := h
  exact ⟨rfl, rfl, rfl, rfl, rfl⟩

theorem scan_sameTransmission (inp : ScanInput) (s : State) : SameTransmission s (scan inp s) := by
  rw [scan_eq]
  exact ⟨rfl, rfl, rfl, rfl, rfl⟩

theorem step_transmissionStep {s t : State} (h : step s = .next t) (hpower : s.agenda.head? ≠ some .powerOnReset) :
    TransmissionStep s t := by
  obtain ⟨later, hblock⟩ := step_blockStep h
  have hpopped : SameBlock s { s with agenda := later } := SameBlock.refl s
  cases hblock with
  | software h => exact (h.between hpopped (SameBlock.refl t)).transmissionStep
  | wave h => have hkept := h.sameTransmission; exact .kept hkept
  | interrupt h => exact .interrupted (periodElapsed_withAgenda h s.agenda)
  | configure h =>
    obtain ⟨hidle, hperiod, -, rfl⟩ := configurePeriod_cases h
    exact .configured hidle hperiod rfl
  | scan inp _ h =>
    have hkept := scan_sameTransmission inp { s with agenda := later }
    rw [← h] at hkept
    exact .kept hkept
  | powerOn hpick _ => exact absurd hpick hpower

/-- The interrupt reads TABLE and moves on by one (R163). -/
theorem periodElapsed_transmission {s t : State} (h : periodElapsed s = .next t) :
    s.armed = true ∧ t.table = s.table ∧ t.cursor = s.cursor + 1 ∧ t.period = s.period := by
  obtain ⟨harmed, -, -, -, hbody⟩ := periodElapsed_cases h
  obtain ⟨hlast, rfl⟩ | ⟨-, rfl⟩ := advanceCursor_cases hbody
  · rw [enterPeriodElapsed_cursor] at hlast
    exact ⟨harmed, rfl, hlast ▸ rfl, rfl⟩
  · exact ⟨harmed, rfl, rfl, rfl⟩

/-- Settles O43: of the cases of `TransmissionStep` an ARMED state leaves the kept one and the interrupt. -/
theorem transmissionOwnsTheTable : Obligations.TransmissionOwnsTheTable := by
  intro s t harmed h hpower
  cases step_transmissionStep h hpower with
  | kept h =>
    obtain ⟨htable, harmedT, hcursor, hcmp, -⟩ := h
    exact ⟨htable, .inl ⟨hcursor, hcmp, harmedT.trans harmed⟩⟩
  | interrupted h =>
    obtain ⟨-, htable, hcursor, -⟩ := periodElapsed_transmission h
    exact ⟨htable, .inr ⟨h, hcursor⟩⟩
  | started hidle _ _ _ => simp [hidle] at harmed
  | configured hidle _ _ => simp [hidle] at harmed

/-- Settles O45, by what each case of `TransmissionStep` does to CURSOR. -/
theorem cursorDiscipline : Obligations.CursorDiscipline := by
  intro s t h hpower
  cases step_transmissionStep h hpower with
  | kept h => obtain ⟨-, -, hcursor, -⟩ := h; exact .inl hcursor
  | started hidle harmed hcursor _ => exact .inr (.inl ⟨hidle, hcursor, harmed⟩)
  | interrupted h =>
    obtain ⟨harmed, -, hcursor, -⟩ := periodElapsed_transmission h
    exact .inr (.inr ⟨harmed, h, hcursor⟩)
  | configured _ _ hcursor => exact .inl hcursor

/-! ### configurePeriod (R43, R330) -/

theorem configurePeriod_armed {s : State} (harmed : s.armed = true) (ticks : U16) :
    configurePeriod ticks s = .refused .configureWhileArmed := if_pos harmed

/-- At boot, while idle and UNCONFIGURED, only the order of the ticks is judged (R330 step 3). -/
theorem configurePeriod_boot {s : State} (hidle : s.armed = false) (hperiod : s.period = none) (ticks : U16) :
    configurePeriod ticks s =
      if s.params.admitsPeriod ticks then .next { s with period := some ticks } else .refused (.periodOutOfRange ticks) := by
  simp [configurePeriod, hidle, hperiod]

theorem step_keepsPeriod {s t : State} (hperiod : s.period ≠ none) (h : step s = .next t)
    (hpower : s.agenda.head? ≠ some .powerOnReset) : t.period = s.period := by
  cases step_transmissionStep h hpower with
  | kept h => obtain ⟨-, -, -, -, hkept⟩ := h; exact hkept
  | started _ _ _ hkept => exact hkept
  | interrupted h => obtain ⟨-, -, -, hkept⟩ := periodElapsed_transmission h; exact hkept
  | configured _ hnone _ => exact absurd hnone hperiod

/-- Settles O47: the branches of `configurePeriod` as a step runs it, and `step_keepsPeriod`. -/
theorem configurePeriodOnlyWhileIdle : Obligations.ConfigurePeriodOnlyWhileIdle := by
  refine ⟨fun s later hagenda => ?_, fun _ _ => step_keepsPeriod⟩
  have hstep : step s = configurePeriod s.params.periodTicks { s with agenda := later } := step_runs hagenda (.inl rfl)
  rw [hstep]
  refine ⟨fun harmed => ?_, fun hidle hperiod => ?_, fun hidle hperiod hinOrder => ?_, fun hidle hperiod hnot => ?_⟩
  · exact configurePeriod_armed (s := { s with agenda := later }) harmed _
  · exact configurePeriod_again (s := { s with agenda := later }) hidle hperiod _
  · exact (configurePeriod_boot (s := { s with agenda := later }) hidle hperiod _).trans
      (if_pos ((admitsPeriod_iff _ _).2 hinOrder))
  · exact (configurePeriod_boot (s := { s with agenda := later }) hidle hperiod _).trans
      (if_neg fun hadmits => hnot ((admitsPeriod_iff _ _).1 hadmits))

end Sys2Proof.Machine
end

section
/-! The encoding of 30_encoding.md: O1 to O8, and O20, the wire word of an accepted COMMIT. The two round trips say what one
opcode byte stands for (R111 to R113, R123) and that the payload passes through both directions unread. -/

namespace Sys2Proof.Machine

/-! ### From a command to its bytes and back (R111 to R113) -/

/-- Every command's opcode byte lies in its own family's row of R112. -/
theorem familyOf_opcode (i : Instr) : Laws.Opcode.Statement i := by
  cases i with
  | setLed id pay => exact Laws.Opcode.setLed id pay
  | setAll pay => exact Laws.Opcode.setAll pay
  | setEach pay => exact Laws.Opcode.setEach pay
  | setMask pay => exact Laws.Opcode.setMask pay
  | display on pay => exact Laws.Opcode.display on pay
  | blink on pay => exact Laws.Opcode.blink on pay
  | blinkDelay sel pay => exact Laws.Opcode.blinkDelay sel pay
  | debounce pay => exact Laws.Opcode.debounce pay
  | colorMode mode pay => exact Laws.Opcode.colorMode mode pay
  | clear pay => exact Laws.Opcode.clear pay
  | commit pay => exact Laws.Opcode.commit pay
  | query pay => exact Laws.Opcode.query pay
  | reset pay => exact Laws.Opcode.reset pay
  | unrecognized op pay => exact Laws.Opcode.unrecognized op pay

/-- In the row of its own family, a command's opcode byte also carries its immediate (R113). -/
theorem decodeOp_opcode {i : Instr} (hfamily : familyOf i.opcode = i.family) : decodeOp i.opcode i.payload = i := by
  unfold decodeOp
  rw [hfamily]
  cases i with
  | setLed _ _ => simp only [Instr.opcode, Instr.payload, Instr.family, paramNibble_setLed]
  | display _ _ | blink _ _ | blinkDelay _ _ | colorMode _ _ =>
    simp only [Instr.opcode, Instr.payload, Instr.family, paramBit_lowBit]
  | setAll _ | setEach _ | setMask _ | debounce _ | clear _ | commit _ | query _ | reset _ | unrecognized _ _ => rfl

theorem decode_encode (i : Instr) (hwf : i.wellFormed = true) : decode (encode i) = .ok i := by
  rw [encode, decode_cons, decodeOp_opcode (familyOf_opcode i hwf)]

/-- Settles O1: the opcode byte finds its family and its immediate, and the payload is passed through. -/
theorem decodeOfEncode : Obligations.DecodeOfEncode := decode_encode

/-! ### From bytes to a command and back (R110, R112, R123) -/

/-- The opcode byte alone decides the command but for its payload. -/
theorem decodeOp_eq_withPayload (op : Byte) (pay : List Byte) : decodeOp op pay = (decodeOp op []).withPayload pay := by
  unfold decodeOp
  cases familyOf op <;> rfl

theorem withPayload_wellFormed (i : Instr) (pay : List Byte) : (i.withPayload pay).wellFormed = i.wellFormed := by
  cases i <;> rfl

/-- The opcode map of R112 and the ranges of R123, byte by byte: no bit of an opcode byte is dropped, and what no row matches is
listed. -/
theorem decodeOp_nil_faithful :
    ∀ op : Byte, (decodeOp op []).opcode = op ∧ (decodeOp op []).wellFormed = true := by
  decide +kernel

@[simp] theorem opcode_decodeOp (op : Byte) (pay : List Byte) : (decodeOp op pay).opcode = op := by
  rw [decodeOp_eq_withPayload, withPayload_opcode, (decodeOp_nil_faithful op).1]

@[simp] theorem payload_decodeOp (op : Byte) (pay : List Byte) : (decodeOp op pay).payload = pay := by
  rw [decodeOp_eq_withPayload, withPayload_payload]

@[simp] theorem wellFormed_decodeOp (op : Byte) (pay : List Byte) : (decodeOp op pay).wellFormed = true := by
  rw [decodeOp_eq_withPayload, withPayload_wellFormed, (decodeOp_nil_faithful op).2]

theorem encode_decodeOp (op : Byte) (pay : List Byte) : encode (decodeOp op pay) = op :: pay := by
  simp [encode]

/-- Settles O2, by the two shapes of a byte list. -/
theorem encodeOfDecode : Obligations.EncodeOfDecode := by
  intro bytes i h
  cases bytes with
  | nil => cases h
  | cons op pay =>
    obtain rfl : decodeOp op pay = i := Except.ok.inj h
    exact ⟨encode_decodeOp op pay, wellFormed_decodeOp op pay⟩

/-- Settles O3, by the two shapes of a byte list. -/
theorem decodeRefusesOnlyNothing : Obligations.DecodeRefusesOnlyNothing := by
  intro bytes
  cases bytes with
  | nil => simp [decode]
  | cons op pay => simp

/-! ### The opcode map (R112, R123) -/

/-- Settles O4: the pairs of rows, over every byte. -/
theorem opcodeRowsDisjoint : Obligations.OpcodeRowsDisjoint := by
  unfold Obligations.OpcodeRowsDisjoint
  decide +kernel

theorem decodeOp_of_unrecognized {op : Byte} (hfamily : familyOf op = .unrecognized) (pay : List Byte) :
    decodeOp op pay = .unrecognized op pay := by
  rw [decodeOp, hfamily]

/-- The well-formedness of what is decoded gives the range of an unmatched byte. -/
theorem familyOf_eq_unrecognized_iff (op : Byte) : familyOf op = .unrecognized ↔ isUnrecognizedByte op = true := by
  refine ⟨fun hfamily => ?_, familyOf_of_unrecognized op⟩
  have hwf := wellFormed_decodeOp op []
  rw [decodeOp_of_unrecognized hfamily] at hwf
  exact hwf

/-- Settles O5; the 224 bytes are counted. -/
theorem unrecognizedBytesAreTheListedOnes : Obligations.UnrecognizedBytesAreTheListedOnes :=
  ⟨familyOf_eq_unrecognized_iff, by decide +kernel⟩

/-- Settles O6: the twelve transactions are the encodings of the commands they stand for. -/
theorem specBytesDecode : Obligations.SpecBytesDecode :=
  ⟨decode_encode (.setLed 0 [1, 2, 3]) rfl, decode_encode (.setLed 15 [0xE4]) rfl, decode_encode (.setAll [10, 20, 30]) rfl,
    decode_encode (.unrecognized 0x11 []) rfl, decode_encode (.display true []) rfl,
    decode_encode (.unrecognized 0x42 []) rfl, decode_encode (.blinkDelay false [0, 0xC8]) rfl,
    decode_encode (.blinkDelay true [1, 0x2C]) rfl, decode_encode (.colorMode true []) rfl,
    decode_encode (.unrecognized 0xB1 []) rfl, decode_encode (.reset []) rfl, decode_encode (.unrecognized 0xFF []) rfl⟩

/-! ### Payload lengths and packed colours (R115, R118) -/

theorem colorBytes_eq (mode : ColorMode) : colorBytes mode = if mode = .packed8 then 1 else 3 := by
  cases mode <;> rfl

/-- Settles O7, family by family. -/
theorem payloadLengths : Obligations.PayloadLengths := by
  intro i s
  simp only [← colorBytes_eq]
  cases i <;> rfl

/-- The exact value of R118 fits a byte: it is at most 3 * 85 * 4 / 4 = 255. -/
theorem expand_toNat (c2 i : BitVec 2) : (expand c2 i).toNat = c2.toNat * 85 * (i.toNat + 1) / 4 := by
  have hc : c2.toNat * 85 ≤ 3 * 85 := by omega
  have hi : i.toNat + 1 ≤ 4 := i.isLt
  have hprod : c2.toNat * 85 * (i.toNat + 1) ≤ 3 * 85 * 4 := Nat.mul_le_mul hc hi
  rw [expand, BitVec.toNat_ofNat]
  exact Nat.mod_eq_of_lt (by omega)

/-- Settles O8: the formula, `unpack` by its definition, and the sixteen entries of the table computed. -/
theorem packedColourExpansion : Obligations.PackedColourExpansion :=
  ⟨expand_toNat, fun _ => rfl, by decide +kernel⟩

/-! ### The wire word of an accepted COMMIT (R121, R122, R157, R158) -/

/-- A command that requires no payload reads none (R232). -/
theorem readPayload_zero (op : Byte) (pay : List Byte) (s : State) : readPayload op 0 pay s = s :=
  if_neg (Nat.not_lt_zero _)

/-- A COMMIT that answers a state while idle was accepted, and its table is the one built from the state it found (R160). -/
theorem execCommit_table {pay : List Byte} {s t : State} (hidle : s.armed = false)
    (h : exec (.commit pay) s = .next t) : t.table = buildTable s := by
  obtain ⟨u, harm, rfl⟩ := exec_cases h
  have hread : readPayload 0xA0 (requiredLen (.commit pay) s) pay s = s := readPayload_zero _ _ _
  obtain ⟨-, ⟨hbusy, -⟩ | ⟨-, -, rfl⟩⟩ := arm_cases (s := s) (hread ▸ harm)
  · simp [hidle] at hbusy
  · exact startTransmission_table s

/-- The bit that position 24·led + 8·slot + k carries (R122, R158). -/
theorem bitval_wirePosition (s : State) (i : Fin 16) (k : Fin 3) (b : Fin 8)
    (h : 24 * i.val + 8 * k.val + b.val < 384) :
    bitval s ⟨24 * i.val + 8 * k.val + b.val, h⟩ =
      (lit s i && (channelOf s.color[i] (channelOrder k)).getLsbD (7 - b.val)) := by
  obtain ⟨hled, hslot, hbit⟩ := wireOrder i k b h
  simp only [bitval, chan, hled, hslot, hbit]

/-- Settles O20, by the table an accepted COMMIT builds, the bit at each position of the wire, and the channel of each slot
(D3). -/
theorem commitTableIsTheWireWord : Obligations.CommitTableIsTheWireWord := by
  intro pay s t hidle h i k b
  have hposition : 24 * i.val + 8 * k.val + b.val < 384 := by omega
  have hentry : t.table[24 * i.val + 8 * k.val + b.val] = (buildTable s)[24 * i.val + 8 * k.val + b.val] := by
    simp only [execCommit_table hidle h]
  rw [hentry, buildTable_getElem, bitval_wirePosition]
  fin_cases k <;> rfl

end Sys2Proof.Machine
end

section
/-! The direct calls of the transmitter, and the setter of the debounce delay (40_transmitter.md R150 to R156, 41_scanner.md R200):
O48, O49, O50, O52. -/

namespace Sys2Proof.Machine

/-! ### One LED, one mask bit -/

theorem callOp_setColorRgb (id : Nat) (r g b : Byte) (s : State) :
    callOp (.setColorRgb id r g b) s = withId id fun i => .next (storeColor i ⟨r, g, b⟩ s) := rfl
theorem callOp_setColorPacked (id : Nat) (q : Byte) (s : State) :
    callOp (.setColorPacked id q) s = withId id fun i => .next (storeColor i (unpack q) s) := rfl
theorem callOp_getColor (id : Nat) (s : State) :
    callOp (.getColor id) s = withId id fun i => .next { s with ret := .color (colorOf i s) } := rfl
theorem callOp_setMaskBit (bit : Nat) (on : Bool) (s : State) :
    callOp (.setMaskBit bit on) s = withId bit fun i => .next (setMaskBit i on s) := rfl
theorem callOp_getButton (id : Nat) (s : State) :
    callOp (.getButton id) s = withId id fun i => .next { s with ret := .button (buttonOf i s) } := rfl

theorem ofNat_toNat_of_id {id : Nat} (h : id < 16) : (BitVec.ofNat 4 id).toNat = id := Nat.mod_eq_of_lt h

/-- A store through a number in range is a store at that number (R150). -/
theorem storeColor_ofNat {id : Nat} (h : id < 16) (c : Color) (s : State) :
    storeColor (BitVec.ofNat 4 id) c s = { s with color := s.color.set id c h } := by
  simp only [storeColor, ofNat_toNat_of_id h]

theorem colorOf_ofNat {id : Nat} (h : id < 16) (s : State) : colorOf (BitVec.ofNat 4 id) s = s.color[id] := by
  simp only [colorOf, ofNat_toNat_of_id h]

/-- Settles O48: an id in range passes `withId`, and the store and the load are at that id. -/
theorem setColorThenGetColor : Obligations.SetColorThenGetColor := by
  intro s id h
  refine ⟨fun r g b => ?_, fun q => ?_, ?_, fun c => Vector.getElem_set_self h⟩
  · rw [callOp_setColorRgb, withId_of_lt h, storeColor_ofNat h]
  · rw [callOp_setColorPacked, withId_of_lt h, storeColor_ofNat h]
  · rw [callOp_getColor, withId_of_lt h, colorOf_ofNat h]

/-- The written bit is the Boolean, every other bit is kept, and there is none from 16 on (R153). -/
theorem writeBit_getLsbD (v : U16) (bit : BitVec 4) (on : Bool) (j : Nat) :
    (writeBit v bit on).getLsbD j = if j = bit.toNat then on else v.getLsbD j := by
  rw [writeBit, BitVec.getLsbD_ofFnLE]
  split
  · rfl
  · have hj : j ≠ bit.toNat := by omega
    rw [if_neg hj, BitVec.getLsbD_of_ge v j (by omega)]

/-- Settles O49, with the mask `writeBit` makes. -/
theorem setMaskBitWritesOneBit : Obligations.SetMaskBitWritesOneBit := by
  intro s bit on h
  refine ⟨writeBit s.mask (BitVec.ofNat 4 bit) on, ?_, ?_, fun j hj => ?_⟩
  · rw [callOp_setMaskBit, withId_of_lt h]
    rfl
  · rw [writeBit_getLsbD, if_pos (ofNat_toNat_of_id h).symm]
  · rw [writeBit_getLsbD, ofNat_toNat_of_id h, if_neg hj]

/-! ### Whole-word setters, and ids out of range -/

/-- Settles O50: each call answers its setter's state, and each setter is the update the statement writes out. -/
theorem settersStoreTheirArguments : Obligations.SettersStoreTheirArguments :=
  fun _ => ⟨fun _ => rfl, fun _ => rfl, fun _ _ _ => rfl, fun _ => rfl⟩

/-- Settles O52: all five calls take their number through `withId`. -/
theorem outOfRangeIdsAreRefused : Obligations.OutOfRangeIdsAreRefused := by
  intro s id h
  refine ⟨fun r g b => ?_, fun q => ?_, ?_, fun on => ?_, ?_⟩
  · rw [callOp_setColorRgb, withId_of_ge h]
  · rw [callOp_setColorPacked, withId_of_ge h]
  · rw [callOp_getColor, withId_of_ge h]
  · rw [callOp_setMaskBit, withId_of_ge h]
  · rw [callOp_getButton, withId_of_ge h]

end Sys2Proof.Machine
end

section
/-! Arm as COMMIT and the blink service run it (40_transmitter.md R160, R170): O21, O22, O46. -/

namespace Sys2Proof.Machine

/-! ### The branches of arm that start nothing (R160, R331, R342) -/

theorem arm_unconfigured {s : State} (hperiod : s.period = none) :
    arm s = .fault (.notConfigured (s.trace ++ [.notConfigured])) := if_pos hperiod

theorem arm_busy {s : State} (hperiod : s.period ≠ none) (harmed : s.armed = true) :
    arm s = .next (raise (.rearmBusy s.cursor) s) := (if_neg hperiod).trans (if_pos harmed)

theorem arm_tooSoon {s : State} (hperiod : s.period ≠ none) (hidle : s.armed = false) (hsoon : latchTooShort s = true) :
    arm s = .fault (.latchTooShort (s.trace ++ [.latchTooShort])) := by
  unfold arm
  rw [if_neg hperiod, hidle, hsoon]
  rfl

/-! ### COMMIT (R250) -/

/-- COMMIT requires no payload: it is an arm, and all its payload is surplus (R115, R233). -/
theorem exec_commit (pay : List Byte) (s : State) : exec (.commit pay) s = thenRecord (arm s) (excessRecords 0xA0 0 pay) := by
  have hread : readPayload 0xA0 0 pay s = s := readPayload_zero 0xA0 pay s
  calc exec (.commit pay) s
      = thenRecord (arm (readPayload 0xA0 0 pay s)) (excessRecords 0xA0 0 pay) := rfl
    _ = _ := by rw [hread]

/-- A command that requires no payload records its own conditions and then the surplus (R283). -/
theorem payloadRecords_zero (op : Byte) (pay : List Byte) (own : List Record) :
    payloadRecords op 0 pay own = own ++ excessRecords op 0 pay := by
  simp [payloadRecords, excessRecords]

/-- Settles O22, by the busy branch of arm. -/
theorem commitWhileBusyIsIgnored : Obligations.CommitWhileBusyIsIgnored := by
  intro pay s hperiod harmed
  rw [exec_commit, arm_busy hperiod harmed, thenRecord_next, payloadRecords_zero, ← List.append_assoc]
  rfl

theorem lit_of_display_off {s : State} (hoff : s.display = false) (i : Fin 16) : lit s i = false := by
  simp [lit, hoff]

/-- Settles O21: no LED is lit, so every position of the table that is built carries a 0. -/
theorem displayOffSendsZeros : Obligations.DisplayOffSendsZeros := by
  intro pay s t hoff hidle h p
  have hbit : bitval s p = false := by rw [bitval, lit_of_display_off hoff, Bool.false_and]
  have hentry := buildTable_getElem s p.val p.isLt
  rw [if_neg (by simp [hbit])] at hentry
  rw [execCommit_table hidle h]
  exact hentry

/-! ### The blink service (R170) -/

theorem otherPhase_eq (phase : Phase) : otherPhase phase = if phase = .lit then .unlit else .lit := by
  cases phase <;> rfl

/-- The current phase has lasted its duration (R170). -/
def BlinkDue (s : State) : Prop := s.blinkEn = true ∧ (phaseMs s).setWidth 32 ≤ s.now - s.blinkT0

theorem blinkDue_iff (s : State) : (s.blinkEn && elapsed s.now s.blinkT0 (phaseMs s)) = true ↔ BlinkDue s := by
  simp [BlinkDue, elapsed]

theorem blinkPhaseStep_due {s : State} (hdue : BlinkDue s) :
    blinkPhaseStep s = { s with
      blinkPhase := if s.blinkPhase = .lit then .unlit else .lit, blinkT0 := s.now, blinkRefresh := true } := by
  rw [← otherPhase_eq]
  exact if_pos ((blinkDue_iff s).2 hdue)

theorem blinkPhaseStep_notDue {s : State} (hnot : ¬ BlinkDue s) : blinkPhaseStep s = s :=
  if_neg fun h => hnot ((blinkDue_iff s).1 h)

/-- A refresh is asked for by a phase change, or was waiting. -/
theorem blinkPhaseStep_refresh {s : State} (h : BlinkDue s ∨ s.blinkRefresh = true) :
    (blinkPhaseStep s).blinkRefresh = true := by
  by_cases hdue : BlinkDue s
  · rw [blinkPhaseStep_due hdue]
  · rw [blinkPhaseStep_notDue hdue]
    exact h.resolve_left hdue

/-- With no refresh asked for, or while busy, the service is the phase half alone. -/
theorem blinkService_waits {s : State} (h : (blinkPhaseStep s).blinkRefresh = false ∨ (blinkPhaseStep s).armed = true) :
    blinkService s = .next (blinkPhaseStep s) := by
  refine if_neg ?_
  obtain h | h := h <;> simp [h]

/-- A refresh asked for while idle is an arm; the phase half leaves ARMED as it was. -/
theorem blinkService_arms {s : State} (hrefresh : BlinkDue s ∨ s.blinkRefresh = true) (hidle : s.armed = false) :
    blinkService s = thenState (arm (blinkPhaseStep s)) fun t => { t with blinkRefresh := false } := by
  have hasked := blinkPhaseStep_refresh hrefresh
  obtain ⟨-, ⟨-, harmed, -⟩, -⟩ := blinkPhaseStep_sameBlock s
  exact if_pos (by simp [hasked, harmed, hidle])

/-- Where nothing is due, and nothing waits or the transmitter is busy, the service changes nothing. -/
theorem blinkService_rests {s : State} (hnot : ¬ BlinkDue s) (h : s.blinkRefresh = false ∨ s.armed = true) :
    blinkService s = .next s := by
  have hphase := blinkPhaseStep_notDue hnot
  rw [blinkService_waits (by rwa [hphase]), hphase]

theorem blinkService_flips_whileBusy {s : State} (hdue : BlinkDue s) (harmed : s.armed = true) :
    blinkService s = .next { s with
      blinkPhase := if s.blinkPhase = .lit then .unlit else .lit, blinkT0 := s.now, blinkRefresh := true } := by
  have hphase := blinkPhaseStep_due hdue
  rw [blinkService_waits (by rw [hphase]; exact .inr harmed), hphase]

/-- The table that is sent has the phase already changed, and the refresh is cleared by the arm. -/
theorem blinkService_refreshes {s : State} (hrefresh : BlinkDue s ∨ s.blinkRefresh = true) (hidle : s.armed = false)
    (hperiod : s.period ≠ none)
    (hgap : ∀ least ticks, s.params.latchLowMin = some least → s.gap = some ticks → least ≤ ticks) :
    blinkService s = .next { startTransmission (blinkPhaseStep s) with blinkRefresh := false } := by
  have harm : arm (blinkPhaseStep s) = .next (startTransmission (blinkPhaseStep s)) := by
    obtain ⟨_, _, _, hphase⟩ := blinkPhaseStep_eq s
    rw [hphase]
    exact arm_runs hperiod hidle hgap
  rw [blinkService_arms hrefresh hidle, harm]
  rfl

/-- An arm that faults whatever the phase, its start and the refresh are is the service's fault. -/
theorem blinkService_faults {s : State} {r : Fault} (hrefresh : BlinkDue s ∨ s.blinkRefresh = true) (hidle : s.armed = false)
    (harm : ∀ phase t0 refresh, arm { s with blinkPhase := phase, blinkT0 := t0, blinkRefresh := refresh } = .fault r) :
    blinkService s = .fault r := by
  obtain ⟨phase, t0, refresh, hphase⟩ := blinkPhaseStep_eq s
  rw [blinkService_arms hrefresh hidle, hphase, harm]
  rfl

/-- Settles O46: the clauses are those of the service on the state without the pick. -/
theorem blinkServiceStep : Obligations.BlinkServiceStep := by
  intro s later hagenda
  have hstep : step s = blinkService { s with agenda := later } := step_runs hagenda (.inl rfl)
  rw [hstep]
  refine ⟨fun hnot hrefresh => ?_, fun hnot harmed => ?_, fun hdue harmed => ?_, fun hnot hrefresh hidle hperiod hgap => ?_,
    fun hdue hidle hperiod hgap => ?_, fun hrefresh hidle hperiod => ?_, fun hrefresh hidle hperiod hsoon => ?_⟩
  · exact blinkService_rests hnot (.inl hrefresh)
  · exact blinkService_rests hnot (.inr harmed)
  · exact blinkService_flips_whileBusy hdue harmed
  · rw [blinkService_refreshes (s := { s with agenda := later }) (.inr hrefresh) hidle hperiod hgap,
      blinkPhaseStep_notDue (s := { s with agenda := later }) hnot]
  · rw [blinkService_refreshes (s := { s with agenda := later }) (.inl hdue) hidle hperiod hgap,
      blinkPhaseStep_due (s := { s with agenda := later }) hdue]
    rfl
  · exact blinkService_faults hrefresh hidle fun _ _ _ => arm_unconfigured hperiod
  · have hshort : latchTooShort s = true := by
      rw [← Bool.not_eq_false, latchTooShort_eq_false]
      exact hsoon
    exact blinkService_faults hrefresh hidle fun _ _ _ => arm_tooSoon hperiod hidle hshort

end Sys2Proof.Machine
end

section
/-! The bit-period interrupt and the pulse generator (40_transmitter.md R163 to R166): O37, O38, O39, O44, then the runs of
ticks and of bit periods, O40, O41, O42. -/

namespace Sys2Proof.Machine

/-! ### PERIOD_ELAPSED (R163, R284, R340) -/

theorem periodElapsed_disabled {s : State} (h : periodElapsedEnabled s = false) :
    periodElapsed s = .refused .periodElapsedNotEnabled := if_pos (by rw [h]; rfl)

theorem periodElapsed_late {s : State} (henabled : periodElapsedEnabled s = true)
    (hlate : s.params.isrDeadline < s.cnt.toNat) :
    periodElapsed s = .fault (.isrDeadline (s.trace ++ [.isrDeadline])) :=
  (if_neg (by simp [henabled])).trans (if_pos hlate)

/-- Picked while it can be taken and in time, the interrupt is its body with the signal cleared. -/
theorem step_periodElapsed {s : State} {later : List Event} (hagenda : s.agenda = .periodElapsed :: later)
    (harmed : s.armed = true) (hpending : s.irqPending = true) (hmasked : s.irqMasked = false)
    (hdue : s.cnt.toNat ≤ s.params.isrDeadline) :
    step s = advanceCursor { s with agenda := later, irqPending := false } := by
  have hstep : step s = periodElapsed { s with agenda := later } := step_runs hagenda (.inl rfl)
  rw [hstep]
  exact periodElapsed_runs _ (by simp [periodElapsedEnabled, harmed, hpending, hmasked]) hdue

/-- Settles O37, by the two branches of the interrupt's body. -/
theorem periodElapsedAdvancesOrCompletes : Obligations.PeriodElapsedAdvancesOrCompletes := by
  intro s later hagenda harmed hpending hmasked hdue
  rw [step_periodElapsed hagenda harmed hpending hmasked hdue]
  exact ⟨advanceCursor_of_lt { s with agenda := later, irqPending := false },
    advanceCursor_of_last { s with agenda := later, irqPending := false }⟩

/-- Settles O38, by the two guards of the interrupt. -/
theorem periodElapsedDisabledOrLate : Obligations.PeriodElapsedDisabledOrLate := by
  intro s later hagenda
  have hstep : step s = periodElapsed { s with agenda := later } := step_runs hagenda (.inl rfl)
  rw [hstep]
  exact ⟨periodElapsed_disabled (s := { s with agenda := later }), periodElapsed_late (s := { s with agenda := later })⟩

/-- An interrupt that leaves the block idle was the completing one. -/
theorem periodElapsed_completes {s t : State} (h : periodElapsed s = .next t) (hidle : t.armed = false) :
    s.cursor = 383 ∧ t.cursor = 384 ∧ t.pin = .low := by
  obtain ⟨harmed, -, -, -, hbody⟩ := periodElapsed_cases h
  obtain ⟨hlast, rfl⟩ | ⟨_, rfl⟩ := advanceCursor_cases hbody
  · exact ⟨hlast, rfl, rfl⟩
  · exact absurd (harmed.symm.trans hidle) (by decide)

/-- Settles O44: of the cases of `TransmissionStep` only the interrupt takes ARMED away. -/
theorem noCancellation : Obligations.NoCancellation := by
  intro s t harmed h hpower hidle
  cases step_transmissionStep h hpower with
  | interrupted h => exact ⟨h, periodElapsed_completes (t := { t with agenda := s.agenda }) h hidle⟩
  | kept h =>
    obtain ⟨-, hkept, -⟩ := h
    simp [harmed, hidle] at hkept
  | started hidleBefore _ _ _ | configured hidleBefore _ _ => simp [hidleBefore] at harmed

/-! ### One timer tick (R166, R287) -/

theorem timerTick_idle {s : State} (hidle : s.armed = false) :
    timerTick s = .next { s with gap := s.gap.map (· + 1) } := if_pos (by rw [hidle]; rfl)

/-- While ARMED a tick drives its level and counts; at the period's end it also signals. -/
theorem timerTick_armed {s : State} {p : U16} (harmed : s.armed = true) (hperiod : s.period = some p) :
    timerTick s =
      if s.cnt + 1 = p then signalPeriodElapsed { s with pin := tickLevel s s.cnt, cnt := s.cnt + 1 }
      else .next { s with pin := tickLevel s s.cnt, cnt := s.cnt + 1 } := by
  unfold timerTick
  rw [harmed, hperiod]
  rfl

theorem timerTick_inside {s : State} {p : U16} (harmed : s.armed = true) (hperiod : s.period = some p)
    (hinside : s.cnt + 1 ≠ p) :
    timerTick s = .next { s with pin := tickLevel s s.cnt, cnt := s.cnt + 1 } :=
  (timerTick_armed harmed hperiod).trans (if_neg hinside)

theorem timerTick_end {s : State} {p : U16} (harmed : s.armed = true) (hperiod : s.period = some p)
    (hend : s.cnt + 1 = p) (hserved : s.irqPending = false) :
    timerTick s = .next { s with pin := tickLevel s s.cnt, cnt := 0, irqPending := true } :=
  ((timerTick_armed harmed hperiod).trans (if_pos hend)).trans (if_neg (by simp [hserved]))

theorem timerTick_lost {s : State} {p : U16} (harmed : s.armed = true) (hperiod : s.period = some p)
    (hend : s.cnt + 1 = p) (hpending : s.irqPending = true) :
    timerTick s = .fault (.isrDeadline (s.trace ++ [.isrDeadline])) :=
  ((timerTick_armed harmed hperiod).trans (if_pos hend)).trans (if_pos hpending)

theorem step_tick {s : State} {later : List Event} (hagenda : s.agenda = .tick :: later) :
    step s = timerTick { s with agenda := later } := step_runs hagenda (.inl rfl)

/-- Settles O39, branch by branch of the tick (`timerTick` itself is the model's name). -/
theorem timerTick_branches : Obligations.TimerTick := by
  intro s later hagenda
  rw [step_tick hagenda]
  refine ⟨timerTick_idle (s := { s with agenda := later }),
    fun harmed p hperiod => ⟨fun hinside => ?_, fun hend hserved => ?_, fun hend hpending => ?_⟩⟩
  · exact timerTick_inside (s := { s with agenda := later }) harmed hperiod hinside
  · exact timerTick_end (s := { s with agenda := later }) harmed hperiod hend hserved
  · exact timerTick_lost (s := { s with agenda := later }) harmed hperiod hend hpending

/-! ### Ticks inside one bit period (R165) -/

/-- The level of the line after `k` ticks from `s` inside a bit period: that of the last tick (R166). -/
def pinAfterTicks (k : Nat) (s : State) : Pin :=
  match k with
  | 0 => s.pin
  | k + 1 => tickLevel s (s.cnt + BitVec.ofNat 16 k)

/-- Of `k + 1` ticks picked, the last one. -/
theorem ticks_succ_append (k : Nat) (later : List Event) :
    List.replicate (k + 1) Event.tick ++ later = List.replicate k .tick ++ .tick :: later := by
  rw [List.replicate_succ', List.append_assoc]
  rfl

/-- Ticks that stay inside the bit period count, drive the line, and do nothing else. -/
theorem run_ticks {p : U16} (k : Nat) {s : State} {later : List Event} (hagenda : s.agenda = List.replicate k .tick ++ later)
    (harmed : s.armed = true) (hperiod : s.period = some p) (hinside : s.cnt.toNat + k < p.toNat) :
    Sys2Proof.core.run k s = .next { s with
      agenda := later
      cnt := s.cnt + BitVec.ofNat 16 k
      pin := pinAfterTicks k s } := by
  induction k generalizing later with
  | zero =>
    have hnone : later = s.agenda := hagenda.symm
    rw [run_zero, hnone]
    simp [pinAfterTicks]
  | succ k ih =>
    rw [ticks_succ_append] at hagenda
    rw [run_add k 1 (ih hagenda (by omega)), run_one, step_tick rfl]
    have hnext : s.cnt + BitVec.ofNat 16 k + 1 ≠ p := by bv_omega
    have hcount : s.cnt + BitVec.ofNat 16 (k + 1) = s.cnt + BitVec.ofNat 16 k + 1 := by bv_omega
    rw [hcount]
    exact timerTick_inside harmed hperiod hnext

/-- While no completion is pending, the line after `k` ticks of a period is HIGH where they are no more than CMP (R45, R166). -/
theorem pinAfterTicks_eq {k : Nat} {s : State} (hcompletion : completionPending s = false) (hpos : 0 < k)
    (hfits : s.cnt.toNat + k < 2 ^ 16) :
    pinAfterTicks k s = if s.cnt.toNat + k ≤ s.cmp.toNat then .high else .low := by
  obtain ⟨j, rfl⟩ : ∃ j, k = j + 1 := ⟨k - 1, by omega⟩
  have hlevel : s.cnt + BitVec.ofNat 16 j < s.cmp ↔ s.cnt.toNat + (j + 1) ≤ s.cmp.toNat := by
    have hcount : (s.cnt + BitVec.ofNat 16 j).toNat = s.cnt.toNat + j := by bv_omega
    rw [BitVec.lt_def, hcount]
    omega
  simp only [pinAfterTicks, tickLevel, hcompletion, hlevel]
  rfl

theorem step_periodEnd {s : State} {later : List Event} (hagenda : s.agenda = .periodEnd :: later) :
    step s = periodEnd { s with agenda := later } := step_runs hagenda (.inl rfl)

/-- Settles O41: all but one of the remaining ticks stay inside the period, and the last one ends it at the same level. -/
theorem ticksRefinePeriodEnd : Obligations.TicksRefinePeriodEnd := by
  intro s later p harmed hperiod hcnt hserved hagenda
  obtain ⟨k, hk⟩ : ∃ k, p.toNat - s.cnt.toNat = k + 1 := ⟨p.toNat - s.cnt.toNat - 1, by bv_omega⟩
  rw [hk, ticks_succ_append] at hagenda
  have hlast : s.cnt + BitVec.ofNat 16 k = p - 1 := by bv_omega
  have hinside := run_ticks k hagenda harmed hperiod (by omega)
  have hperiodEnd : step { s with agenda := .periodEnd :: later } = periodEnd { s with agenda := later } :=
    step_periodEnd rfl
  rw [hlast] at hinside
  rw [hk, run_add k 1 hinside, run_one, step_tick rfl, hperiodEnd,
    periodEnd_runs (s := { s with agenda := later }) harmed hperiod hserved]
  exact timerTick_end harmed hperiod (BitVec.sub_add_cancel p 1) hserved

/-! ### The pulse (R165, R340) -/

/-- The pulse of a period whose compare value is loaded before its first tick (R165). -/
theorem run_ticks_pulse (k : Nat) (s : State) (later : List Event) (p : U16)
    (hagenda : s.agenda = List.replicate k .tick ++ later) (harmed : s.armed = true) (hperiod : s.period = some p)
    (hcnt : s.cnt = 0) (hpos : 0 < k) (hinside : k < p.toNat) (hcompletion : completionPending s = false) :
    Sys2Proof.core.run k s = .next { s with
      agenda := later
      cnt := BitVec.ofNat 16 k
      pin := if k ≤ s.cmp.toNat then .high else .low } := by
  have hzero : s.cnt.toNat = 0 := by rw [hcnt]; rfl
  have hcount : s.cnt + BitVec.ofNat 16 k = BitVec.ofNat 16 k := by bv_omega
  rw [run_ticks k hagenda harmed hperiod (by omega), pinAfterTicks_eq hcompletion hpos (by omega), hzero, hcount,
    Nat.zero_add]

/-- No pulse of the table being sent is shorter than ISR_DEADLINE (R340), so neither is the one loaded. -/
theorem State.Inv.isrDeadline_le_entry {s : State} (hs : s.Inv) (harmed : s.armed = true) {n : Nat} (hn : n < 384) :
    s.params.isrDeadline ≤ s.table[n].toNat := by
  have hdeadline := hs.deadline
  obtain ⟨-, hwidths⟩ := hs.pulses
  obtain hshort | hlong : s.table[n] = s.params.t0hTicks ∨ s.table[n] = s.params.t1hTicks := hs.armed_table harmed ⟨n, hn⟩
  · rwa [hshort]
  · rw [hlong]
    bv_omega

theorem State.Inv.isrDeadline_le_cmp {s : State} (hs : s.Inv) (harmed : s.armed = true) :
    s.params.isrDeadline ≤ s.cmp.toNat := by
  obtain ⟨hn, hentry⟩ := Vector.getElem?_eq_some_iff.1 (hs.armed_cmp harmed)
  exact hentry ▸ hs.isrDeadline_le_entry harmed hn

/-- `s` once the interrupt has loaded the next compare value, `d` ticks into the period (R163). -/
def loadedAfter (d : Nat) (rest : List Event) (s : State) (hlt : s.cursor.toNat + 1 < 384) : State := { s with
  agenda := rest
  irqPending := false
  cursor := s.cursor + 1
  cmp := s.table[s.cursor.toNat + 1]
  cnt := s.cnt + BitVec.ofNat 16 d
  pin := pinAfterTicks d s }

/-- `d` ticks into the period and in time, the interrupt is served. -/
theorem run_ticks_load {d : Nat} {s : State} {rest : List Event} {p : U16} (hlt : s.cursor.toNat + 1 < 384)
    (hagenda : s.agenda = List.replicate d .tick ++ .periodElapsed :: rest) (harmed : s.armed = true)
    (hperiod : s.period = some p) (hpending : s.irqPending = true) (hmasked : s.irqMasked = false)
    (hdue : s.cnt.toNat + d ≤ s.params.isrDeadline) (hinside : s.cnt.toNat + d < p.toNat) :
    Sys2Proof.core.run (d + 1) s = .next (loadedAfter d rest s hlt) := by
  have hcount : (s.cnt + BitVec.ofNat 16 d).toNat = s.cnt.toNat + d := by bv_omega
  have hserve := step_periodElapsed
    (s := { s with
      agenda := .periodElapsed :: rest, cnt := s.cnt + BitVec.ofNat 16 d, pin := pinAfterTicks d s })
    rfl harmed hpending hmasked (hcount.trans_le hdue)
  rw [run_add d 1 (run_ticks d hagenda harmed hperiod hinside), run_one, hserve]
  exact advanceCursor_of_lt { s with
    agenda := rest, cnt := s.cnt + BitVec.ofNat 16 d, pin := pinAfterTicks d s, irqPending := false } hlt

theorem completionPending_of_lt {s : State} (hlt : s.cursor.toNat + 1 < 384) : completionPending s = false := by
  have hcursor : s.cursor ≠ 383 := by bv_omega
  simp only [completionPending, beq_eq_false_iff_ne.2 hcursor, Bool.and_false]

theorem loadedAfter_cnt {d : Nat} {rest : List Event} {s : State} (hlt : s.cursor.toNat + 1 < 384) (hcnt : s.cnt = 0) :
    (loadedAfter d rest s hlt).cnt = BitVec.ofNat 16 d := by
  show s.cnt + BitVec.ofNat 16 d = BitVec.ofNat 16 d
  rw [hcnt]
  exact BitVec.zero_add _

/-- The load is no later than any pulse ends, so the line is still in its first HIGH when the new width takes over (R340). -/
theorem pinAfterTicks_loadedAfter {d m : Nat} (rest : List Event) {s : State} (hlt : s.cursor.toNat + 1 < 384) (hs : s.Inv)
    (harmed : s.armed = true) (hcnt : s.cnt = 0) (hdue : d ≤ s.params.isrDeadline) (hpos : 0 < d + m)
    (hfits : d + m < 2 ^ 16) :
    pinAfterTicks m (loadedAfter d rest s hlt) =
      if d + m ≤ s.table[s.cursor.toNat + 1].toNat then .high else .low := by
  obtain rfl | hm := Nat.eq_zero_or_pos m
  · have hzero : s.cnt.toNat = 0 := by rw [hcnt]; rfl
    have holdWidth := hs.isrDeadline_le_cmp harmed
    have hnewWidth := hs.isrDeadline_le_entry harmed hlt
    calc pinAfterTicks 0 (loadedAfter d rest s hlt)
        = pinAfterTicks d s := rfl
      _ = .high := by rw [pinAfterTicks_eq (k := d) (completionPending_of_lt hlt) hpos (by omega), if_pos (by omega)]
      _ = _ := (if_pos (by omega)).symm
  · have hcount : (loadedAfter d rest s hlt).cnt.toNat = d := by
      rw [loadedAfter_cnt hlt hcnt]
      exact Nat.mod_eq_of_lt (by omega)
    rw [pinAfterTicks_eq rfl hm (by omega), hcount]
    rfl

/-- Settles O40: a run of ticks; and ticks, the load, and ticks again. -/
theorem pulseShapeWithinAPeriod : Obligations.PulseShapeWithinAPeriod := by
  refine ⟨run_ticks_pulse,
    fun d m s later p hlt hs hagenda harmed hperiod hcnt hpending hmasked hdue hpos hinside => ?_⟩
  have hzero : s.cnt.toNat = 0 := by rw [hcnt]; rfl
  have hload := run_ticks_load hlt hagenda harmed hperiod hpending hmasked (by omega) (by omega)
  have hcount := loadedAfter_cnt (d := d) (rest := List.replicate m .tick ++ later) hlt hcnt
  have hticks := run_ticks m (s := loadedAfter d (List.replicate m .tick ++ later) s hlt) rfl harmed hperiod
    (by rw [hcount, BitVec.toNat_ofNat, Nat.mod_eq_of_lt (by omega)]; exact hinside)
  rw [← Nat.add_assoc, run_add (d + 1) m hload, hticks, hcount, ← BitVec.ofNat_add,
    pinAfterTicks_loadedAfter _ hlt hs harmed hcnt hdue hpos (by omega)]
  rfl

/-! ### A transmission in the untimed view (R164) -/

/-- `s` at tick 0 of the next bit period, its interrupt about to run its body. -/
def periodOver (p : U16) (later : List Event) (s : State) : State :=
  { s with agenda := later, pin := tickLevel s (p - 1), cnt := 0 }

/-- One bit period whose interrupt is served at once ends in the interrupt's body. -/
theorem run_bitPeriod {s : State} {later : List Event} {p : U16} (hagenda : s.agenda = .periodEnd :: .periodElapsed :: later)
    (harmed : s.armed = true) (hperiod : s.period = some p) (hserved : s.irqPending = false) (hmasked : s.irqMasked = false) :
    Sys2Proof.core.run 2 s = advanceCursor (periodOver p later s) := by
  have hend : step s = .next { periodOver p (.periodElapsed :: later) s with irqPending := true } :=
    (step_periodEnd hagenda).trans
      (periodEnd_runs (s := { s with agenda := .periodElapsed :: later }) harmed hperiod hserved)
  have hserve := step_periodElapsed (s := { periodOver p (.periodElapsed :: later) s with irqPending := true })
    rfl harmed rfl hmasked (Nat.zero_le _)
  have hcleared : periodOver p later s = { periodOver p later s with irqPending := false } := by
    rw [← hserved]
    rfl
  rw [run_succ 1 hend, run_one, hserve, hcleared]
  rfl

/-- `t` stands in bit period `k` of the transmission of `table`, with the picks of the remaining periods to come. -/
structure InBitPeriod (table : Vector U16 384) (later : List Event) (k : Nat) (t : State) : Prop where
  lt : k < 384
  armed : t.armed = true
  configured : t.period ≠ none
  served : t.irqPending = false
  unmasked : t.irqMasked = false
  table_eq : t.table = table
  cursor : t.cursor.toNat = k
  cmp : t.cmp = table[k]
  agenda : t.agenda = bitPeriods (384 - k) ++ later

/-- From one bit period of a transmission to the next. -/
theorem InBitPeriod.next {table : Vector U16 384} {later : List Event} {k : Nat} {t : State}
    (h : InBitPeriod table later k t) (hk : k + 1 < 384) :
    ∃ u, Sys2Proof.core.run 2 t = .next u ∧ InBitPeriod table later (k + 1) u := by
  obtain ⟨p, hperiod⟩ := Option.ne_none_iff_exists'.1 h.configured
  obtain ⟨n, hn⟩ : ∃ n, 384 - k = n + 1 := ⟨384 - k - 1, by omega⟩
  have hrest : 384 - (k + 1) = n := by omega
  have hagenda : t.agenda = .periodEnd :: .periodElapsed :: (bitPeriods n ++ later) := by rw [h.agenda, hn]; rfl
  have hlt : t.cursor.toNat + 1 < 384 := by rw [h.cursor]; exact hk
  have hrun := run_bitPeriod hagenda h.armed hperiod h.served h.unmasked
  refine ⟨_, hrun.trans (advanceCursor_of_lt (periodOver p (bitPeriods n ++ later) t) hlt), ?_⟩
  exact {
    lt := hk
    armed := h.armed
    configured := h.configured
    served := h.served
    unmasked := h.unmasked
    table_eq := h.table_eq
    cursor := by
      have hcursor := h.cursor
      show (t.cursor + 1).toNat = k + 1
      bv_omega
    cmp := by
      show t.table[t.cursor.toNat + 1] = table[k + 1]
      simp only [h.table_eq, h.cursor]
    agenda := by
      rw [hrest]
      rfl }

/-- The last bit period completes the transmission (R163). -/
theorem InBitPeriod.last {table : Vector U16 384} {later : List Event} {t : State} (h : InBitPeriod table later 383 t) :
    ∃ u, Sys2Proof.core.run 2 t = .next u ∧
      u.armed = false ∧ u.cursor = 384 ∧ u.pin = .low ∧ u.table = table ∧ u.agenda = later := by
  obtain ⟨p, hperiod⟩ := Option.ne_none_iff_exists'.1 h.configured
  have hlast : t.cursor = 383 := BitVec.eq_of_toNat_eq h.cursor
  have hrun := run_bitPeriod h.agenda h.armed hperiod h.served h.unmasked
  exact ⟨_, hrun.trans (advanceCursor_of_last (periodOver p later t) hlast), rfl, rfl, rfl, h.table_eq, rfl⟩

theorem InBitPeriod.run {table : Vector U16 384} {later : List Event} {s : State} (h : InBitPeriod table later 0 s) (k : Nat)
    (hk : k < 384) : ∃ t, Sys2Proof.core.run (2 * k) s = .next t ∧ InBitPeriod table later k t := by
  induction k with
  | zero => exact ⟨s, run_zero s, h⟩
  | succ k ih =>
    obtain ⟨t, hrun, ht⟩ := ih (by omega)
    obtain ⟨u, hnext, hu⟩ := ht.next hk
    exact ⟨u, (run_add (2 * k) 2 hrun).trans hnext, hu⟩

/-- An accepted arm begins period 0 (R160). -/
theorem startTransmission_inBitPeriod {s : State} {later : List Event} (hconfigured : s.period ≠ none)
    (hserved : s.irqPending = false) (hmasked : s.irqMasked = false) (hagenda : s.agenda = bitPeriods 384 ++ later) :
    InBitPeriod (startTransmission s).table later 0 (startTransmission s) where
  lt := by decide
  armed := startTransmission_armed s
  configured := by rwa [startTransmission_period]
  served := by rwa [startTransmission_irqPending]
  unmasked := by rwa [startTransmission_irqMasked]
  table_eq := rfl
  cursor := by rw [startTransmission_cursor]; rfl
  cmp := by simp only [startTransmission_cmp, startTransmission_table]
  agenda := by rwa [startTransmission_agenda]

/-- Settles O42: an accepted arm stands in period 0, each period leads to the next, and the last completes. -/
theorem transmissionIs384BitPeriods : Obligations.TransmissionIs384BitPeriods := by
  intro s0 s later hidle hserved hmasked hagenda harm
  obtain ⟨hconfigured, ⟨hbusy, -⟩ | ⟨-, -, rfl⟩⟩ := arm_cases harm
  · simp [hidle] at hbusy
  · have hstart := startTransmission_inBitPeriod hconfigured hserved hmasked hagenda
    refine ⟨fun k => ?_, ?_⟩
    · obtain ⟨t, hrun, ht⟩ := hstart.run k k.isLt
      exact ⟨t, hrun, ht.armed, ht.cursor, ht.cmp, ht.table_eq⟩
    · obtain ⟨t, hrun, ht⟩ := hstart.run 383 (by decide)
      obtain ⟨u, hlast, hu⟩ := ht.last
      exact ⟨u, (run_add 766 2 hrun).trans hlast, hu⟩

end Sys2Proof.Machine
end

section
/-! The button reads and the elapsed-time test (41_scanner.md R205, R206, R211): O51, O58. -/

namespace Sys2Proof.Machine

theorem buttonOf_ofNat {id : Nat} (h : id < 16) (s : State) : buttonOf (BitVec.ofNat 4 id) s = s.deb.getLsbD id := by
  simp only [buttonOf, ofNat_toNat_of_id h]

/-- Settles O51: getButtons answers DEB itself, and getButton takes its number through `withId`. -/
theorem buttonReadsReturnThePublishedWord : Obligations.ButtonReadsReturnThePublishedWord := by
  refine fun s => ⟨rfl, fun id => ⟨fun h => ?_, fun h => ?_⟩⟩
  · rw [callOp_getButton, withId_of_lt h, buttonOf_ofNat h]
  · rw [callOp_getButton, withId_of_ge h]

/-- The time since the stamp is the time gone by, wrapped or not, and widening a duration keeps its value (R211). -/
theorem elapsed_add {w : Nat} (hw : w ≤ 32) (since d : U32) (dur : BitVec w) :
    elapsed (since + d) since dur = decide (dur.toNat ≤ d.toNat) := by
  have hgone : since + d - since = d := add_sub_cancel_left since d
  have hwide : (dur.setWidth 32).toNat = dur.toNat := BitVec.toNat_setWidth_of_le hw
  simp only [elapsed, hgone, BitVec.le_def, hwide]

/-- Settles O58, at the two widths of a duration. -/
theorem elapsedTimeAcrossAWrap : Obligations.ElapsedTimeAcrossAWrap :=
  fun since d delay dur => ⟨elapsed_add (by decide) since d delay, elapsed_add (by decide) since d dur⟩

end Sys2Proof.Machine
end

section
/-! The sample a scan takes of the matrix (41_scanner.md R201, R213, 70_reset_and_hazards.md R343): O53. -/

namespace Sys2Proof.Machine

/-- The machine while a scan samples row r: the row driven, KEYS as the environment left it for this row (R201, R213). -/
def whileRowDriven (inp : ScanInput) (s : State) (r : Fin 4) : State :=
  { s with keys := keysAtRow inp s.keys r, rowDrive := some r }

/-- The four bits a scan reads on row r, column 0 lowest. -/
def rowBits (inp : ScanInput) (s : State) (r : Fin 4) : BitVec 4 :=
  BitVec.ofFnLE fun c =>
    sampleAt (whileRowDriven inp s r) (s.params.rowSettle ≤ (passOf inp r).waited) (s.draws + 4 * r.val + c.val) r c

/-- The sample is the four rows, row 0 lowest (R201). -/
theorem sampleMatrix_word (inp : ScanInput) (s : State) :
    (sampleMatrix inp s).2 = rowBits inp s 3 ++ rowBits inp s 2 ++ rowBits inp s 1 ++ rowBits inp s 0 := by
  simp only [sampleMatrix, sampleRow_eq]
  rfl

/-- Bit 4·r + c of four rows put together is bit c of row r (D8); row by row, the index says which part it is in. -/
theorem getLsbD_append_rows (row : Fin 4 → BitVec 4) (r c : Fin 4) :
    (row 3 ++ row 2 ++ row 1 ++ row 0).getLsbD (4 * r.val + c.val) = (row r).getLsbD c.val := by
  simp only [BitVec.getLsbD_append]
  fin_cases r <;> grind

/-- One bit of a row: a draw where it was not settled or may ghost, else the contact (R201, R343). -/
theorem rowBits_getLsbD (inp : ScanInput) (s : State) (r c : Fin 4) :
    (rowBits inp s r).getLsbD c.val =
      if (passOf inp r).waited < s.params.rowSettle ∨
          (closedAt (keysAtRow inp s.keys r) r c = false ∧ ghostAt (keysAtRow inp s.keys r) r c = true) then
        drawBit (s.draws + 4 * r.val + c.val)
      else closedAt (keysAtRow inp s.keys r) r c := by
  rw [rowBits, BitVec.getLsbD_ofFnLE, dif_pos c.isLt, sampleAt_eq _ _ _ _ _ rfl]
  simp only [whileRowDriven, decide_eq_false_iff_not, Nat.not_le]

/-- Settles O53: the debouncer stores the sample as RAW, and its bit is a bit of the row. -/
theorem scanSamplesTheContacts : Obligations.ScanSamplesTheContacts := by
  intro inp s r c
  refine ⟨?_, ?_, ?_⟩
  · rw [scan_eq, debounce_raw, sampleMatrix_word, getLsbD_append_rows, rowBits_getLsbD]
  · rw [scan_eq, debounce_rowDrive]
  · rw [scan_eq, debounce_keys]

end Sys2Proof.Machine
end

section
/-! What a scan does with its sample (41_scanner.md R202 to R204): O54, O55. -/

namespace Sys2Proof.Machine

/-- The machine after a scan's sampling, before the debouncer runs (R201). -/
def sampled (inp : ScanInput) (later : List Event) (s : State) : State :=
  { s with agenda := later, keys := keysAtRow inp s.keys 3, rowDrive := none, draws := s.draws + 16 }

/-- A scan's step always answers a state: what the debouncer makes of the sample at the one timestamp (R202). -/
theorem step_scan {inp : ScanInput} {s : State} {later : List Event} (hagenda : s.agenda = .scan inp :: later) :
    step s = .next (debounce s.now (sampleMatrix inp { s with agenda := later }).2 (sampled inp later s)) :=
  (step_runs hagenda (.inl rfl)).trans (congrArg Host.Outcome.next (scan_eq inp { s with agenda := later }))

/-- Settles O54: the stamps and the published bits are the debouncer's, and it writes nothing of the rest. -/
theorem scanDebouncesEachBit : Obligations.ScanDebouncesEachBit := by
  intro inp s t later hagenda h
  rw [step_scan hagenda] at h
  cases h
  refine ⟨fun id => ⟨newLast_getElem _ _ _ id, newDeb_getLsbD _ _ _ id⟩, rfl, ?_, ?_, rfl, rfl, rfl, rfl⟩
  · simp [SameEngine, sampled]
  · simp [SameConfiguration, sampled]

/-- A published bit shows the new sample exactly where it did before or the bit's stamp is DELAY old (R202). -/
theorem newDeb_getLsbD_eq_raw_iff (t : U32) (raw : U16) (s : State) (id : Fin 16) :
    (newDeb t raw s).getLsbD id.val = raw.getLsbD id.val ↔
      s.deb.getLsbD id.val = raw.getLsbD id.val ∨ s.delay.setWidth 32 ≤ t - (newLast t raw s)[id] := by
  rw [newDeb_getLsbD]
  split
  next hcommits => exact iff_of_true rfl (.inr hcommits.1)
  next hkept => exact (or_iff_left_of_imp fun hdue => not_ne_iff.1 fun hdiffers => hkept ⟨hdue, hdiffers.symm⟩).symm

/-- With DELAY = 0 every stamp is old enough, so the raw sample is published whole (R204). -/
theorem newDeb_of_delay_zero {s : State} (hdelay : s.delay = 0) (t : U32) (raw : U16) : newDeb t raw s = raw := by
  refine BitVec.eq_of_getLsbD_eq fun i hi => (newDeb_getLsbD_eq_raw_iff t raw s ⟨i, hi⟩).2 (.inr ?_)
  rw [hdelay]
  exact Nat.zero_le _

/-- Settles O55, by what the debouncer publishes with DELAY = 0. -/
theorem zeroDelayPublishesAtOnce : Obligations.ZeroDelayPublishesAtOnce :=
  fun _ _ _ hagenda hdelay => ⟨_, step_scan hagenda, newDeb_of_delay_zero hdelay _ _⟩

end Sys2Proof.Machine
end

section
/-! The commit law (41_scanner.md R212): O56. The bit's stamp and raw sample stay as the change left them for as long as the scans
see the new sample, so every scan measures its time from the change. -/

namespace Sys2Proof.Machine

/-- Bit `id` was stamped at `t0` and its raw sample has been `v` since. -/
structure HeldSince (id : Fin 16) (t0 : U32) (v : Bool) (s : State) : Prop where
  raw_eq : s.raw.getLsbD id.val = v
  last_eq : s.last[id] = t0

theorem newLast_of_changed {s : State} {id : Fin 16} {raw : U16} (t : U32)
    (hchanged : raw.getLsbD id.val ≠ s.raw.getLsbD id.val) : (newLast t raw s)[id] = t := by
  rw [newLast_getElem, if_pos hchanged]

/-- A scan that sees the bit change stamps it (R202). -/
theorem heldSince_debounce_of_changed {s : State} {id : Fin 16} {raw : U16} (t : U32)
    (hchanged : raw.getLsbD id.val ≠ s.raw.getLsbD id.val) : HeldSince id t (raw.getLsbD id.val) (debounce t raw s) :=
  ⟨rfl, newLast_of_changed t hchanged⟩

section
variable {id : Fin 16} {t0 : U32} {v : Bool} {s : State}

theorem HeldSince.stamp_kept (h : HeldSince id t0 v s) {raw : U16} (t : U32) (hsame : raw.getLsbD id.val = v) :
    (newLast t raw s)[id] = t0 := by
  rw [newLast_getElem, if_neg (not_not.2 (hsame.trans h.raw_eq.symm)), h.last_eq]

/-- A scan that sees the held sample again leaves the stamp (R202). -/
theorem HeldSince.after_scan (h : HeldSince id t0 v s) {raw : U16} (t : U32) (hsame : raw.getLsbD id.val = v) :
    HeldSince id t0 v (debounce t raw s) :=
  ⟨hsame, h.stamp_kept t hsame⟩

theorem HeldSince.after_scans (h : HeldSince id t0 v s) {scans : List (U32 × U16)}
    (hsame : ∀ x ∈ scans, x.2.getLsbD id.val = v) : HeldSince id t0 v (debounceAll scans s) := by
  induction scans generalizing s with
  | nil => exact h
  | cons x rest ih =>
    obtain ⟨hx, hrest⟩ := List.forall_mem_cons.1 hsame
    exact ih (h.after_scan x.1 hx) hrest

end

/-- Some scan of the list is at least DELAY after `t0` (R212). -/
def SomeScanDue (delay : Byte) (t0 : U32) (scans : List (U32 × U16)) : Prop :=
  ∃ x ∈ scans, delay.setWidth 32 ≤ x.1 - t0

theorem someScanDue_cons {delay : Byte} {t0 : U32} {x : U32 × U16} {rest : List (U32 × U16)} :
    SomeScanDue delay t0 (x :: rest) ↔ delay.setWidth 32 ≤ x.1 - t0 ∨ SomeScanDue delay t0 rest := by
  simp only [SomeScanDue, List.exists_mem_cons_iff]

/-- The held sample is published exactly where it already was or some scan is due (R212). -/
theorem HeldSince.debounceAll_deb_eq_iff {id : Fin 16} {t0 : U32} {v : Bool} {s : State} (h : HeldSince id t0 v s)
    {scans : List (U32 × U16)} (hsame : ∀ x ∈ scans, x.2.getLsbD id.val = v) :
    (debounceAll scans s).deb.getLsbD id.val = v ↔ s.deb.getLsbD id.val = v ∨ SomeScanDue s.delay t0 scans := by
  induction scans generalizing s with
  | nil => simp [debounceAll, SomeScanDue]
  | cons x rest ih =>
    obtain ⟨t, raw⟩ := x
    obtain ⟨hx, hrest⟩ := List.forall_mem_cons.1 hsame
    have hfirst := newDeb_getLsbD_eq_raw_iff t raw s id
    rw [h.stamp_kept t hx, hx] at hfirst
    calc (debounceAll rest (debounce t raw s)).deb.getLsbD id.val = v
        ↔ (newDeb t raw s).getLsbD id.val = v ∨ SomeScanDue s.delay t0 rest := ih (h.after_scan t hx) hrest
      _ ↔ s.deb.getLsbD id.val = v ∨ SomeScanDue s.delay t0 ((t, raw) :: rest) := by
        rw [hfirst, someScanDue_cons, or_assoc]

/-- From the change on: the new sample, not published before, is published exactly where some scan is due (R212). -/
theorem debounceAll_deb_eq_iff_of_changed {s : State} {id : Fin 16} {t0 : U32} {raw0 : U16} {later : List (U32 × U16)}
    (hchanged : raw0.getLsbD id.val ≠ s.raw.getLsbD id.val) (hdiffers : raw0.getLsbD id.val ≠ s.deb.getLsbD id.val)
    (hsame : ∀ x ∈ later, x.2.getLsbD id.val = raw0.getLsbD id.val) :
    (debounceAll ((t0, raw0) :: later) s).deb.getLsbD id.val = raw0.getLsbD id.val ↔
      SomeScanDue s.delay t0 ((t0, raw0) :: later) := by
  have hfirst := newDeb_getLsbD_eq_raw_iff t0 raw0 s id
  rw [newLast_of_changed t0 hchanged, or_iff_right hdiffers.symm] at hfirst
  calc (debounceAll later (debounce t0 raw0 s)).deb.getLsbD id.val = raw0.getLsbD id.val
      ↔ (newDeb t0 raw0 s).getLsbD id.val = raw0.getLsbD id.val ∨ SomeScanDue s.delay t0 later :=
        (heldSince_debounce_of_changed t0 hchanged).debounceAll_deb_eq_iff hsame
    _ ↔ SomeScanDue s.delay t0 ((t0, raw0) :: later) := by rw [hfirst, someScanDue_cons]

/-- A scan that sees the published value publishes nothing new (R202). -/
theorem newDeb_getLsbD_of_eq_deb {s : State} {id : Fin 16} {raw : U16} (t : U32)
    (hsame : raw.getLsbD id.val = s.deb.getLsbD id.val) : (newDeb t raw s).getLsbD id.val = s.deb.getLsbD id.val := by
  rw [newDeb_getLsbD, if_neg fun hcommits => hcommits.2 hsame]

theorem bool_eq_of_ne_of_ne {a b v : Bool} (ha : a ≠ v) (hb : b ≠ v) : a = b :=
  (Bool.eq_not_of_ne ha).trans (Bool.eq_not_of_ne hb).symm

/-- Settles O56: the held bit is published where a scan is due; until then the change back only finds the value that is still
published, and stamps it. -/
theorem commitLaw : Obligations.CommitLaw := by
  intro s id t0 raw0 later hchanged hdiffers hsame held due
  have hpublished : held.deb.getLsbD id.val = raw0.getLsbD id.val ↔ due :=
    debounceAll_deb_eq_iff_of_changed hchanged hdiffers hsame
  have hheld : HeldSince id t0 (raw0.getLsbD id.val) held :=
    (heldSince_debounce_of_changed t0 hchanged).after_scans hsame
  refine ⟨hpublished.2, fun hwaiting => ?_⟩
  have hkept : held.deb.getLsbD id.val = s.deb.getLsbD id.val :=
    bool_eq_of_ne_of_ne (mt hpublished.1 hwaiting) hdiffers.symm
  refine ⟨hkept, fun t1 raw1 hback => ⟨?_, newLast_of_changed t1 (hheld.raw_eq.symm ▸ hback)⟩⟩
  have hold : raw1.getLsbD id.val = held.deb.getLsbD id.val :=
    bool_eq_of_ne_of_ne hback (mt hpublished.1 hwaiting)
  exact (newDeb_getLsbD_of_eq_deb t1 hold).trans hkept

end Sys2Proof.Machine
end

section
/-! The commands of the dispatcher (42_dispatcher.md R231 to R233, R240 to R253): O9 to O19, O25, O26, O27. A command that records
nothing of its own is its effect on the payload bytes as read, in the state whose draws are taken and whose records are written. -/

namespace Sys2Proof.Machine

/-! ### A command that records nothing of its own (R231, R232, R233) -/

/-- Only COMMIT and UNRECOGNIZED have a condition of their own to record (R250, R253). -/
def recordsNothing : Instr → Bool
  | .commit _ | .unrecognized _ _ => false
  | .setLed _ _ | .setAll _ | .setEach _ | .setMask _ | .display _ _ | .blink _ _ | .blinkDelay _ _ | .debounce _
  | .colorMode _ _ | .clear _ | .query _ | .reset _ => true

/-- `s` with a payload of `L` bytes read: the draws for the missing bytes, and the underrun or the surplus recorded. -/
def payloadRead (op : Byte) (L : Nat) (pay : List Byte) (s : State) : State :=
  { s with draws := s.draws + (L - pay.length), trace := s.trace ++ payloadRecords op L pay [] }

theorem payloadRead_zero (op : Byte) (pay : List Byte) (s : State) :
    payloadRead op 0 pay s = { s with trace := s.trace ++ payloadRecords op 0 pay [] } := by
  simp [payloadRead]

/-- The underrun and then the surplus are the records of `payloadRead`. -/
theorem readPayload_thenExcess (op : Byte) (L : Nat) (pay : List Byte) (s : State) :
    { readPayload op L pay s with trace := (readPayload op L pay s).trace ++ excessRecords op L pay } =
      payloadRead op L pay s := by
  simp [readPayload_eq, payloadRead, payloadRecords, excessRecords]

/-- SET_LED stores the first colour group of its payload, in the mode in force (R240). -/
theorem setLedEffect_eq (id : BitVec 4) (bytes : List Byte) (s : State) :
    setLedEffect id bytes s = storeColor id (colorGroup s.colorMode bytes 0) s := by
  unfold setLedEffect colorGroup
  cases s.colorMode <;> rfl

/-- Such a command does not read TRACE, so a surplus recorded after it may as well be recorded before it. -/
theorem thenRecord_commandEffect {i : Instr} (hquiet : recordsNothing i = true) (bytes : List Byte) (s : State)
    (more : List Record) :
    thenRecord (commandEffect i bytes s) more = commandEffect i bytes { s with trace := s.trace ++ more } := by
  cases i with
  | setLed id pay => simp only [commandEffect, thenRecord_next, setLedEffect_eq]; rfl
  | blinkDelay sel pay => cases sel <;> rfl
  | commit _ | unrecognized _ _ => cases hquiet
  | setAll _ | setEach _ | setMask _ | display _ _ | blink _ _ | debounce _ | colorMode _ _ | clear _ | query _ | reset _ =>
    rfl

theorem exec_eq_commandEffect {i : Instr} (hquiet : recordsNothing i = true) (s : State) :
    exec i s = commandEffect i (busBytes (requiredLen i s) i.payload s)
      (payloadRead i.opcode (requiredLen i s) i.payload s) := by
  rw [exec_eq_runCommand, runCommand_eq, thenRecord_commandEffect hquiet, readPayload_thenExcess]

/-- Without a payload to read there is no underrun, and all that was sent is surplus. -/
theorem exec_eq_commandEffect_of_noPayload {i : Instr} (hquiet : recordsNothing i = true) {s : State}
    (hlen : requiredLen i s = 0) :
    exec i s = commandEffect i (busBytes 0 i.payload s)
      { s with trace := s.trace ++ payloadRecords i.opcode 0 i.payload [] } := by
  rw [exec_eq_commandEffect hquiet, hlen, payloadRead_zero]

/-! ### Colour payloads (R116, R117, R240 to R242) -/

theorem colorGroup_rgb24 {L k : Nat} (hk : 3 * k + 2 < L) (pay : List Byte) (s : State) :
    colorGroup .rgb24 (busBytes L pay s) k = ⟨busByte pay s (3 * k), busByte pay s (3 * k + 1), busByte pay s (3 * k + 2)⟩ := by
  simp only [colorGroup]
  rw [byteAt_busBytes (by omega), byteAt_busBytes (by omega), byteAt_busBytes hk]

theorem colorGroup_packed8 {L k : Nat} (hk : k < L) (pay : List Byte) (s : State) :
    colorGroup .packed8 (busBytes L pay s) k = unpack (busByte pay s k) := by
  simp only [colorGroup]
  rw [byteAt_busBytes hk]

theorem opcode_setLed (id : BitVec 4) (pay : List Byte) : (Instr.setLed id pay).opcode = 0#4 ++ id := by
  rw [Instr.opcode]
  revert id
  decide +kernel

theorem exec_setLed (id : BitVec 4) (pay : List Byte) (s : State) :
    exec (.setLed id pay) s = .next { s with
      color := s.color.set id.toNat (colorGroup s.colorMode (busBytes (colorBytes s.colorMode) pay s) 0) id.isLt
      draws := s.draws + (colorBytes s.colorMode - pay.length)
      trace := s.trace ++ payloadRecords (0#4 ++ id) (colorBytes s.colorMode) pay [] } := by
  rw [exec_eq_commandEffect rfl, commandEffect, setLedEffect_eq, opcode_setLed]
  rfl

theorem exec_setAll (pay : List Byte) (s : State) :
    exec (.setAll pay) s = .next { s with
      color := Vector.replicate 16 (colorGroup s.colorMode (busBytes (colorBytes s.colorMode) pay s) 0)
      draws := s.draws + (colorBytes s.colorMode - pay.length)
      trace := s.trace ++ payloadRecords 0x10 (colorBytes s.colorMode) pay [] } :=
  exec_eq_commandEffect rfl s

theorem exec_setEach (pay : List Byte) (s : State) :
    exec (.setEach pay) s = .next { s with
      color := Vector.ofFn fun k => colorGroup s.colorMode (busBytes (16 * colorBytes s.colorMode) pay s) k.val
      draws := s.draws + (16 * colorBytes s.colorMode - pay.length)
      trace := s.trace ++ payloadRecords 0x20 (16 * colorBytes s.colorMode) pay [] } :=
  exec_eq_commandEffect rfl s

/-- Settles O9: the one group of the payload, in each colour mode. -/
theorem setLedStoresOneColour : Obligations.SetLedStoresOneColour := by
  refine ⟨fun id pay => ?_, fun id pay s => ⟨fun hmode => ?_, fun hmode => ?_⟩⟩
  · rw [← opcode_setLed id pay]
    exact decode_encode (.setLed id pay) rfl
  · rw [exec_setLed, hmode, colorGroup_rgb24 (by decide)]
    rfl
  · rw [exec_setLed, hmode, colorGroup_packed8 (by decide)]
    rfl

/-- Settles O10: the one group of the payload, in each colour mode. -/
theorem setAllStoresOneColourEverywhere : Obligations.SetAllStoresOneColourEverywhere := by
  refine ⟨fun pay => decode_encode (.setAll pay) rfl, fun pay s => ⟨fun hmode => ?_, fun hmode => ?_⟩⟩
  · rw [exec_setAll, hmode, colorGroup_rgb24 (by decide)]
    rfl
  · rw [exec_setAll, hmode, colorGroup_packed8 (by decide)]
    rfl

/-- Settles O11: each of the 16 groups lies within the payload, in each colour mode. -/
theorem setEachStoresOneGroupPerLed : Obligations.SetEachStoresOneGroupPerLed := by
  refine ⟨fun pay => decode_encode (.setEach pay) rfl, fun pay s => ⟨fun hmode => ?_, fun hmode => ?_⟩⟩
  · have hgroup (k : Fin 16) := colorGroup_rgb24 (L := 48) (k := k.val) (by omega) pay s
    simp only [exec_setEach, hmode, colorBytes, hgroup]
  · have hgroup (k : Fin 16) := colorGroup_packed8 (L := 16) (k := k.val) (by omega) pay s
    simp only [exec_setEach, hmode, colorBytes, hgroup]

/-! ### 16-bit and byte payloads (R119, R243, R246, R247) -/

theorem payload16_busBytes (pay : List Byte) (s : State) :
    payload16 (busBytes 2 pay s) = ((busByte pay s 0).setWidth 16 <<< 8) ||| (busByte pay s 1).setWidth 16 := by
  rw [payload16, byteAt_busBytes (by decide), byteAt_busBytes (by decide), be16_eq]

/-- Settles O12, by the 16-bit payload. -/
theorem setMaskIsBigEndian : Obligations.SetMaskIsBigEndian := by
  refine ⟨fun pay => decode_encode (.setMask pay) rfl, fun pay s => ?_⟩
  rw [← payload16_busBytes]
  exact exec_eq_commandEffect rfl s

/-- Settles O15, by the 16-bit payload and the two values of the selector. -/
theorem blinkDelayWritesTheSelectedDuration : Obligations.BlinkDelayWritesTheSelectedDuration := by
  refine ⟨fun pay => ⟨decode_encode (.blinkDelay false pay) rfl, decode_encode (.blinkDelay true pay) rfl⟩, fun pay s => ?_⟩
  rw [← payload16_busBytes]
  exact ⟨exec_eq_commandEffect rfl s, exec_eq_commandEffect rfl s⟩

/-- Settles O16, by the one payload byte. -/
theorem debounceSetsTheDelay : Obligations.DebounceSetsTheDelay := by
  refine ⟨fun pay => decode_encode (.debounce pay) rfl, fun pay s => ?_⟩
  rw [← byteAt_busBytes (L := 1) (by decide)]
  exact exec_eq_commandEffect rfl s

/-! ### Commands without a payload (R244, R245, R248, R249, R251, R252) -/

/-- Settles O13, for each value of the low opcode bit. -/
theorem displaySetsTheFlag : Obligations.DisplaySetsTheFlag := by
  refine ⟨fun pay => ⟨decode_encode (.display false pay) rfl, decode_encode (.display true pay) rfl⟩, fun on pay s => ?_⟩
  cases on <;> exact exec_eq_commandEffect_of_noPayload rfl rfl

/-- Settles O14, for each value of the low opcode bit. -/
theorem blinkRestartsTheLitPhase : Obligations.BlinkRestartsTheLitPhase := by
  refine ⟨fun pay => ⟨decode_encode (.blink false pay) rfl, decode_encode (.blink true pay) rfl⟩, fun on pay s => ?_⟩
  cases on <;> exact exec_eq_commandEffect_of_noPayload rfl rfl

/-- Settles O17, for each value of the low opcode bit. -/
theorem colorModeSelectsTheFormat : Obligations.ColorModeSelectsTheFormat := by
  refine ⟨fun pay => ⟨decode_encode (.colorMode false pay) rfl, decode_encode (.colorMode true pay) rfl⟩,
    fun mode pay s => ?_⟩
  cases mode <;> exact exec_eq_commandEffect_of_noPayload rfl rfl

/-- Settles O18: the effect is the update the statement writes out. -/
theorem clearZeroesEveryColour : Obligations.ClearZeroesEveryColour :=
  ⟨fun pay => decode_encode (.clear pay) rfl, fun _ _ => exec_eq_commandEffect_of_noPayload rfl rfl⟩

theorem exec_query (pay : List Byte) (s : State) :
    exec (.query pay) s = .next { s with
      rp := .buttons s.deb
      trace := s.trace ++ payloadRecords 0xB0 0 pay [] } :=
  exec_eq_commandEffect_of_noPayload rfl rfl

theorem scan_rp (inp : ScanInput) (s : State) : (scan inp s).rp = s.rp := by
  rw [scan_eq, debounce_rp]

/-- Settles O25: the capture, and that a scan keeps the slot. -/
theorem queryCapturesTheButtons : Obligations.QueryCapturesTheButtons :=
  ⟨fun pay => decode_encode (.query pay) rfl, fun pay s => ⟨exec_query pay s, fun inp => scan_rp inp s⟩⟩

/-- Settles O26: the effect is the update the statement writes out. -/
theorem resetRestoresTheConfiguration : Obligations.ResetRestoresTheConfiguration :=
  ⟨fun pay => decode_encode (.reset pay) rfl, fun _ _ => exec_eq_commandEffect_of_noPayload rfl rfl⟩

/-! ### The two commands with a record of their own (R250, R253) -/

/-- An unrecognized opcode requires as many bytes as were sent, so none is missing and none is surplus (R115, R253). -/
theorem exec_unrecognized (op : Byte) (pay : List Byte) (s : State) :
    exec (.unrecognized op pay) s = .next { s with trace := s.trace ++ [.unrecognizedOpcode op] } := by
  have hread : readPayload op pay.length pay s = s := if_neg (lt_irrefl _)
  have hexcess : excessRecords op pay.length pay = [] := if_neg (lt_irrefl _)
  calc exec (.unrecognized op pay) s
      = thenRecord (.next (raise (.unrecognizedOpcode op) (readPayload op pay.length pay s)))
          (excessRecords op pay.length pay) := rfl
    _ = _ := by rw [hread, hexcess, thenRecord_next, List.append_nil]; rfl

/-- Settles O27: the decoder's fall-through on the bytes of R123, and the one record. -/
theorem unrecognizedOpcodeIsANoOp : Obligations.UnrecognizedOpcodeIsANoOp :=
  ⟨fun op pay hrange => decode_encode (.unrecognized op pay) hrange, exec_unrecognized⟩

/-- An accepted arm written out: TABLE and the first compare value by the bits they carry (R121, R160). -/
theorem startTransmission_eq (s : State) :
    startTransmission s = { s with
      table := Vector.ofFn fun p => if bitval s p then s.params.t1hTicks else s.params.t0hTicks
      cursor := 0
      cmp := if bitval s 0 then s.params.t1hTicks else s.params.t0hTicks
      cnt := 0
      pin := if s.pin = .hiz then .low else s.pin
      armed := true } := by
  rw [startTransmission, buildTable_getElem]
  rfl

/-- Settles O19, by the accepted branch of arm. -/
theorem commitStartsATransmission : Obligations.CommitStartsATransmission := by
  refine ⟨fun pay => decode_encode (.commit pay) rfl, fun pay s hperiod hidle hgap => ?_⟩
  rw [exec_commit, arm_runs hperiod hidle hgap, thenRecord_next, startTransmission_eq, payloadRecords_zero]
  rfl

end Sys2Proof.Machine
end

section
/-! The dispatcher's step and the bus (42_dispatcher.md R231, R234, R260): O29, O31, O59. -/

namespace Sys2Proof.Machine

/-! ### DISPATCH of the oldest transaction (R231) -/

theorem dispatch_eq {s : State} {bytes : List Byte} {queue : List (List Byte)} {i : Instr} (hrx : s.rx = bytes :: queue)
    (hdecode : decode bytes = .ok i) : dispatch s = exec i { s with rx := queue } := by
  simp only [dispatch, fetch, hrx, hdecode]

/-- Settles O29: nothing precedes the pick, and DISPATCH decodes the oldest transaction. -/
theorem stepRunsTheDecodedCommand : Obligations.StepRunsTheDecodedCommand := by
  intro s later bytes queue i hagenda hrx hdecode hdisabled
  have hstep : step s = dispatch { s with agenda := later } := step_runs hagenda (.inr hdisabled)
  rw [hstep]
  exact dispatch_eq (s := { s with agenda := later }) hrx hdecode

/-! ### The receive limit (R234) -/

theorem receive_unlimited {s : State} (hlimit : s.params.busRxMax = none) (sent : List Byte) : receive sent s = sent := by
  simp only [receive, hlimit]

theorem receive_limited {s : State} {m : Nat} (hlimit : s.params.busRxMax = some m) (sent : List Byte) :
    receive sent s = sent.take m := by
  simp only [receive, hlimit]

theorem step_hostWrite {s : State} {sent : List Byte} {later : List Event} (hagenda : s.agenda = .hostWrite sent :: later)
    (hsent : sent ≠ []) : step s = .next { s with agenda := later, rx := s.rx ++ [receive sent s] } :=
  (step_runs hagenda (.inl rfl)).trans (if_neg hsent)

/-- Settles O31, with and without a limit. -/
theorem receiveLimitCutsATransaction : Obligations.ReceiveLimitCutsATransaction := by
  intro s sent later hagenda hsent
  rw [step_hostWrite hagenda hsent]
  refine ⟨fun hlimit => ?_, fun m hlimit => ?_⟩
  · rw [receive_unlimited hlimit]
  · rw [receive_limited hlimit, List.take_eq_take_min, min_comm]

/-! ### A bus read (R260) -/

theorem busRead_eq {s : State} {k : Nat} {queue : List Nat} (hreads : s.reads = k :: queue) :
    busRead s = .next (serveRead k { s with reads := queue }) := by
  simp only [busRead, hreads]

theorem serveRead_pending {s : State} {v : U16} (hpending : s.rp = .buttons v) (k : Nat) :
    serveRead k s = { s with
      busOut := ([highByte v, lowByte v] ++ drawBytes s (k - 2)).take k
      draws := s.draws + (k - 2)
      rp := .idle } := by
  simp only [serveRead, hpending]

theorem serveRead_idle {s : State} (hidle : s.rp = .idle) (k : Nat) :
    serveRead k s = raise .readIdle { s with busOut := drawBytes s k, draws := s.draws + k } := by
  simp only [serveRead, hidle]

/-- Settles O59: nothing precedes the pick, and the read is served by what the slot holds. -/
theorem busReadServesTheSlot : Obligations.BusReadServesTheSlot := by
  intro s later k queue hagenda hreads hdisabled
  have hstep : step s = .next (serveRead k { s with agenda := later, reads := queue }) :=
    (step_runs hagenda (.inr hdisabled)).trans (busRead_eq (s := { s with agenda := later }) hreads)
  rw [hstep]
  refine ⟨fun v hpending => ?_, fun hidle => ?_⟩
  · rw [serveRead_pending (s := { s with agenda := later, reads := queue }) hpending]
    rfl
  · rw [serveRead_idle (s := { s with agenda := later, reads := queue }) hidle]
    rfl

end Sys2Proof.Machine
end

section
/-! QUERY and the READ that follows it (42_dispatcher.md R261): O60. Once a QUERY has captured a report, a step without a QUERY, a
RESET, a bus read or a power-on reset keeps it, so it stays pending along any run of such steps. -/

namespace Sys2Proof.Machine

/-! ### The agents that touch neither the slot nor what can take the report -/

/-- From `s` to `t` the slot, the transactions delivered and the coming picks are kept. -/
def SameSlot (s t : State) : Prop := t.rp = s.rp ∧ t.rx = s.rx ∧ t.agenda = s.agenda

/-- Also for a `t` that differs from `s` in other fields only: the two statements are the same by unfolding. -/
theorem SameSlot.refl (s : State) : SameSlot s s := ⟨rfl, rfl, rfl⟩

theorem SameSlot.trans {s u t : State} (hsu : SameSlot s u) (hut : SameSlot u t) : SameSlot s t := by
  simp_all [SameSlot]

theorem arm_sameSlot {s t : State} (h : arm s = .next t) : SameSlot s t := by
  obtain ⟨-, ⟨-, rfl⟩ | ⟨-, -, rfl⟩⟩ := arm_cases h
  · exact SameSlot.refl s
  · exact ⟨startTransmission_rp s, startTransmission_rx s, startTransmission_agenda s⟩

theorem blinkService_sameSlot {s t : State} (h : blinkService s = .next t) : SameSlot s t := by
  have hphase : SameSlot s (blinkPhaseStep s) := by
    obtain ⟨_, _, _, hs⟩ := blinkPhaseStep_eq s
    rw [hs]
    exact SameSlot.refl s
  obtain rfl | ⟨u, -, harm, rfl⟩ := blinkService_cases h
  · exact hphase
  · exact (hphase.trans (arm_sameSlot harm)).trans (SameSlot.refl u)

theorem callOp_sameSlot {op : BlockOp} {s t : State} (h : callOp op s = .next t) : SameSlot s t := by
  obtain ⟨-, u, _, harm, rfl⟩ | ⟨-, -, -, hrp, -, hrx, hagenda, -⟩ := callOp_cases h
  · exact (arm_sameSlot harm).trans (SameSlot.refl u)
  · exact ⟨hrp, hrx, hagenda⟩

theorem periodElapsed_sameSlot {s t : State} (h : periodElapsed s = .next t) : SameSlot s t := by
  obtain ⟨-, -, -, -, hbody⟩ := periodElapsed_cases h
  obtain ⟨-, rfl⟩ | ⟨-, rfl⟩ := advanceCursor_cases hbody
  · exact SameSlot.refl s
  · exact SameSlot.refl s

theorem MovesWave.sameSlot {s t : State} (h : MovesWave s t) : SameSlot s t := by
  obtain ⟨_, _, _, _, _, rfl, -⟩ := h
  exact SameSlot.refl s

theorem configurePeriod_sameSlot {ticks : U16} {s t : State} (h : configurePeriod ticks s = .next t) : SameSlot s t := by
  obtain ⟨-, -, -, rfl⟩ := configurePeriod_cases h
  exact SameSlot.refl s

theorem scan_sameSlot (inp : ScanInput) (s : State) : SameSlot s (scan inp s) := by
  rw [scan_eq]
  exact SameSlot.refl s

/-- Of the commands only QUERY and RESET write the slot, and none writes the queue or the picks. -/
theorem exec_sameSlot {i : Instr} {s t : State} (h : exec i s = .next t) (hquery : i.family ≠ .query)
    (hreset : i.family ≠ .reset) : SameSlot s t := by
  obtain ⟨u, heffect, rfl⟩ := exec_cases h
  have hread : SameSlot s (readPayload i.opcode (requiredLen i s) i.payload s) := by
    rw [readPayload_eq]
    exact SameSlot.refl s
  obtain ⟨-, -, -, -, hrx, hagenda, -, -, hrp⟩ := commandEffect_frame i _ heffect
  exact hread.trans ⟨hrp hquery hreset, hrx, hagenda⟩

/-! ### A captured report stays (R261) -/

/-- A report of `v` is pending, and no transaction delivered and no coming pick can take it. -/
structure ReportHeld (v : U16) (s : State) : Prop where
  pending : s.rp = .buttons v
  rx_keep : ∀ bytes ∈ s.rx, keepsSlot bytes = true
  agenda_keep : ∀ e ∈ s.agenda, eventKeepsSlot e = true

theorem ReportHeld.of_sameSlot {v : U16} {s t : State} (hs : ReportHeld v s) (h : SameSlot s t) : ReportHeld v t := by
  obtain ⟨hrp, hrx, hagenda⟩ := h
  exact ⟨hrp ▸ hs.pending, hrx ▸ hs.rx_keep, hagenda ▸ hs.agenda_keep⟩

theorem keepsSlot_cons {op : Byte} {pay : List Byte} :
    keepsSlot (op :: pay) = true ↔ familyOf op ≠ .query ∧ familyOf op ≠ .reset := by
  simp [keepsSlot]

@[simp] theorem family_decodeOp (op : Byte) (pay : List Byte) : (decodeOp op pay).family = familyOf op := by
  unfold decodeOp
  cases familyOf op <;> rfl

/-- The bus cuts a transaction at its end, so the opcode byte arrives as it was sent or not at all (R234). -/
theorem keepsSlot_receive {sent : List Byte} (hsent : keepsSlot sent = true) (s : State) :
    keepsSlot (receive sent s) = true := by
  cases hlimit : s.params.busRxMax with
  | none => rwa [receive_unlimited hlimit]
  | some m =>
    rw [receive_limited hlimit]
    cases sent with
    | nil => rwa [List.take_nil]
    | cons op pay =>
      cases m with
      | zero => rfl
      | succ m => rwa [List.take_succ_cons, keepsSlot_cons, ← keepsSlot_cons (pay := pay)]

theorem hostWrite_reportHeld {v : U16} {sent : List Byte} {s t : State} (h : hostWrite sent s = .next t)
    (hsent : keepsSlot sent = true) (hs : ReportHeld v s) : ReportHeld v t := by
  obtain ⟨-, rfl⟩ := hostWrite_cases h
  refine { hs with rx_keep := fun bytes hbytes => ?_ }
  obtain hold | hnew := List.mem_append.1 hbytes
  · exact hs.rx_keep bytes hold
  · rw [List.mem_singleton.1 hnew]
    exact keepsSlot_receive hsent s

theorem dispatch_reportHeld {v : U16} {s t : State} (h : dispatch s = .next t) (hs : ReportHeld v s) : ReportHeld v t := by
  obtain ⟨op, pay, rest, hrx, hexec⟩ := dispatch_cases h
  obtain ⟨hop, hrest⟩ := List.forall_mem_cons.1 (hrx ▸ hs.rx_keep)
  obtain ⟨hquery, hreset⟩ := keepsSlot_cons.1 hop
  have hpopped : ReportHeld v { s with rx := rest } := { hs with rx_keep := hrest }
  exact hpopped.of_sameSlot (exec_sameSlot hexec (by rwa [family_decodeOp]) (by rwa [family_decodeOp]))

theorem runEvent_reportHeld {v : U16} {e : Event} {s t : State} (h : runEvent e s = .next t)
    (he : eventKeepsSlot e = true) (hs : ReportHeld v s) : ReportHeld v t := by
  cases e with
  | hostWrite sent => exact hostWrite_reportHeld h he hs
  | dispatch => exact dispatch_reportHeld h hs
  | busRead | powerOnReset => cases he
  | blinkService => exact hs.of_sameSlot (blinkService_sameSlot h)
  | call op => exact hs.of_sameSlot (callOp_sameSlot h)
  | tick => exact hs.of_sameSlot (timerTick_movesWave h).sameSlot
  | periodEnd => exact hs.of_sameSlot (periodEnd_movesWave h).sameSlot
  | periodElapsed => exact hs.of_sameSlot (periodElapsed_sameSlot h)
  | configurePeriod => exact hs.of_sameSlot (configurePeriod_sameSlot h)
  | scan inp => cases h; exact hs.of_sameSlot (scan_sameSlot inp s)
  | hostRead _ | clock _ | contacts _ | disableInterrupt | enableInterrupt | pullLow =>
    cases h
    exact hs.of_sameSlot (SameSlot.refl s)

theorem step_reportHeld {v : U16} {s t : State} (h : step s = .next t) (hs : ReportHeld v s) : ReportHeld v t := by
  obtain ⟨-, rfl⟩ | ⟨_, _, -, -, hirq⟩ | ⟨e, later, hagenda, hrun⟩ := step_cases h
  · exact hs
  · exact hs.of_sameSlot (periodElapsed_sameSlot hirq)
  · obtain ⟨he, hlater⟩ := List.forall_mem_cons.1 (hagenda ▸ hs.agenda_keep)
    have hpopped : ReportHeld v { s with agenda := later } := { hs with agenda_keep := hlater }
    exact runEvent_reportHeld hrun he hpopped

theorem run_reportHeld {v : U16} {s t : State} (n : Nat) (h : Sys2Proof.core.run n s = .next t) (hs : ReportHeld v s) :
    ReportHeld v t := by
  induction n generalizing s with
  | zero =>
    obtain rfl : s = t := Host.Outcome.next.inj ((run_zero s).symm.trans h)
    exact hs
  | succ n ih =>
    obtain ⟨u, hstep, hrun⟩ := run_succ_cases h
    exact ih hrun (step_reportHeld hstep hs)

/-- Settles O60: the report captured by the QUERY is held along the run, and the read of two bytes sends it. -/
theorem queryThenReadLaw : Obligations.QueryThenReadLaw := by
  intro pay s s1 t n queue hquery hrx hagenda hrun hreads
  have hcaptured : s1.rp = .buttons s.deb := by
    rw [exec_query] at hquery
    cases hquery
    rfl
  have hheld := run_reportHeld n hrun ⟨hcaptured, hrx, hagenda⟩
  have hserved := serveRead_pending (s := { t with reads := queue }) hheld.pending 2
  refine ⟨_, busRead_eq hreads, ?_, ?_⟩
  · rw [hserved]
    rfl
  · rw [hserved]

end Sys2Proof.Machine
end

section
/-! Exceptions (60_exceptions.md R282 to R285): O30, a due interrupt precedes a picked bus event; and O36, the records a model fault
leaves. Only an arm, the interrupt and the end of a bit period fault; a surplus follows only the arm of a dispatched COMMIT. -/

namespace Sys2Proof.Machine

/-! ### The interrupt before a bus event (R284, R285) -/

theorem step_interruptFirst {s : State} {e : Event} {later : List Event} (hagenda : s.agenda = e :: later)
    (hbus : isBusEvent e = true) (henabled : periodElapsedEnabled s = true) : step s = periodElapsed s := by
  simp [step, runAgenda, hagenda, hbus, henabled]

/-- Settles O30: both picks are bus events, and the three conditions are those of an interrupt that can be taken. -/
theorem pendingInterruptPrecedesBusEvents : Obligations.PendingInterruptPrecedesBusEvents := by
  intro s e later hagenda he harmed hpending hmasked
  have hbus : isBusEvent e = true := by
    obtain rfl | rfl := he <;> rfl
  have henabled : periodElapsedEnabled s = true := by simp [periodElapsedEnabled, harmed, hpending, hmasked]
  exact step_interruptFirst hagenda hbus henabled

/-! ### The record of a fault, and the surplus after it (R282, R283) -/

/-- The fault carries the records before the step and its own; `surplus` follows, but for IsrDeadline, which no command raises. -/
def FaultRecorded (before surplus : List Record) (f : Fault) : Prop :=
  match f with
  | .notConfigured t => t = before ++ .notConfigured :: surplus
  | .isrDeadline t => t = before ++ [.isrDeadline]
  | .latchTooShort t => t = before ++ .latchTooShort :: surplus

/-- What a step on this pick, with this transaction oldest, records last if it faults: the payload of a dispatched COMMIT. -/
def surplusOfPick (pick : Option Event) (oldest : Option (List Byte)) : List Record :=
  match pick, oldest with
  | some .dispatch, some (_ :: pay) => excessRecords 0xA0 0 pay
  | _, _ => []

/-- A payload where none is required is all surplus (R233). -/
theorem excessRecords_zero (op : Byte) (pay : List Byte) :
    excessRecords op 0 pay = if pay = [] then [] else [.excessPayload op pay.length] := by
  cases pay <;> rfl

theorem faultThenRecords_nil (r : Fault) : faultThenRecords r [] = r := by
  cases r <;> simp [faultThenRecords]

theorem arm_fault_thenRecords {s : State} {r : Fault} (h : arm s = .fault r) (surplus : List Record) :
    FaultRecorded s.trace surplus (faultThenRecords r surplus) := by
  obtain ⟨-, rfl⟩ | ⟨-, -, rfl⟩ := arm_fault h
  · exact List.append_assoc _ _ _
  · exact List.append_assoc _ _ _

theorem arm_fault_recorded {s : State} {r : Fault} (h : arm s = .fault r) : FaultRecorded s.trace [] r := by
  have hrecorded := arm_fault_thenRecords h []
  rwa [faultThenRecords_nil] at hrecorded

/-- IsrDeadline, raised by the interrupt or by the end of a bit period (R287, R340), comes with no surplus. -/
theorem faultRecorded_of_isrDeadline {before : List Record} {r : Fault} (h : r = .isrDeadline (before ++ [.isrDeadline]))
    (surplus : List Record) : FaultRecorded before surplus r := by
  subst h
  rfl

/-! ### The agents that fault -/

/-- The blink service faults in its arm, before which the phase half records nothing (R170). -/
theorem blinkService_fault_recorded {s : State} {r : Fault} (h : blinkService s = .fault r) : FaultRecorded s.trace [] r := by
  obtain ⟨_, _, _, hphase⟩ := blinkPhaseStep_eq s
  unfold blinkService at h
  rw [hphase] at h
  dsimp only at h
  split at h
  · have hrecorded := arm_fault_recorded (thenState_eq_fault.1 h)
    exact hrecorded
  · cases h

/-- Of the direct calls only arm faults. -/
theorem callOp_fault_recorded {op : BlockOp} {s : State} {r : Fault} (h : callOp op s = .fault r) :
    FaultRecorded s.trace [] r := by
  cases op with
  | arm => exact arm_fault_recorded (thenState_eq_fault.1 h)
  | setColorRgb _ _ _ _ | setColorPacked _ _ | getColor _ | setMaskBit _ _ | getButton _ =>
    rw [callOp] at h
    obtain ⟨_, hnext⟩ := withId_eq_fault h
    cases hnext
  | setMask _ | setDisplayState _ | setBlinkState _ _ _ | setDebounceDelay _ | getButtons => cases h

/-- A dispatch that faults executed the oldest transaction, which has an opcode byte (R231). -/
theorem dispatch_fault_cases {s : State} {r : Fault} (h : dispatch s = .fault r) :
    ∃ op pay rest, s.rx = (op :: pay) :: rest ∧ exec (decodeOp op pay) { s with rx := rest } = .fault r := by
  cases hrx : s.rx with
  | nil => simp [dispatch, fetch, hrx] at h
  | cons bytes rest =>
    cases bytes with
    | nil => simp [dispatch, fetch, hrx, decode] at h
    | cons op pay => exact ⟨op, pay, rest, rfl, (dispatch_eq hrx (decode_cons op pay)).symm.trans h⟩

/-- The command was a COMMIT: its own record comes first, then that of the transaction's payload (R160, R283). -/
theorem dispatch_fault_recorded {s : State} {r : Fault} (h : dispatch s = .fault r) :
    FaultRecorded s.trace (surplusOfPick (some .dispatch) s.rx.head?) r := by
  obtain ⟨op, pay, rest, hrx, hexec⟩ := dispatch_fault_cases h
  obtain ⟨pay', q, hcommit, harm, rfl⟩ := exec_fault hexec
  obtain rfl : pay = pay' := (payload_decodeOp op pay).symm.trans (congrArg Instr.payload hcommit)
  rw [hrx]
  exact arm_fault_thenRecords harm _

/-! ### The agents that never fault -/

theorem hostWrite_not_fault (sent : List Byte) (s : State) (r : Fault) : hostWrite sent s ≠ .fault r := by
  unfold hostWrite
  split <;> simp

theorem busRead_not_fault (s : State) (r : Fault) : busRead s ≠ .fault r := by
  unfold busRead
  split <;> simp

theorem configurePeriod_not_fault (ticks : U16) (s : State) (r : Fault) : configurePeriod ticks s ≠ .fault r := by
  unfold configurePeriod
  split
  · simp
  · split
    · simp
    · split <;> simp

/-! ### The events and the step -/

theorem runEvent_fault_recorded {e : Event} {s : State} {r : Fault} (h : runEvent e s = .fault r) :
    FaultRecorded s.trace (surplusOfPick (some e) s.rx.head?) r := by
  cases e with
  | dispatch => exact dispatch_fault_recorded h
  | blinkService => exact blinkService_fault_recorded h
  | call op => exact callOp_fault_recorded h
  | tick => exact faultRecorded_of_isrDeadline (timerTick_fault h) _
  | periodEnd => exact faultRecorded_of_isrDeadline (periodEnd_fault h) _
  | periodElapsed => exact faultRecorded_of_isrDeadline (periodElapsed_fault h) _
  | hostWrite sent => exact absurd h (hostWrite_not_fault sent s r)
  | busRead => exact absurd h (busRead_not_fault s r)
  | configurePeriod => exact absurd h (configurePeriod_not_fault _ s r)
  | hostRead _ | clock _ | contacts _ | scan _ | disableInterrupt | enableInterrupt | pullLow | powerOnReset => cases h

/-- Settles O36: a fault is the preceding interrupt's, without a surplus, or the pick's own. -/
theorem faultsRecordThemselves : Obligations.FaultsRecordThemselves := by
  intro s r h
  have hrecorded : FaultRecorded s.trace (surplusOfPick s.agenda.head? s.rx.head?) r := by
    obtain hirq | ⟨e, later, hagenda, hrun⟩ := step_fault h
    · exact faultRecorded_of_isrDeadline (periodElapsed_fault hirq) _
    · rw [hagenda]
      have hpick := runEvent_fault_recorded hrun
      exact hpick
  simp only [surplusOfPick, excessRecords_zero] at hrecorded
  exact hrecorded

end Sys2Proof.Machine
end

section
/-! Reset and hazards (70_reset_and_hazards.md R320, R322, R331, R342): O23, O24, O28, O32. -/

namespace Sys2Proof.Machine

/-! ### What a command leaves alone (R322, D28, C8) -/

/-- Settles O28: reading the payload takes draws and may record an underrun, and the effect keeps the rest by its frame. -/
theorem commandsKeepEngineAndScanner : Obligations.CommandsKeepEngineAndScanner := by
  intro i s t h
  obtain ⟨u, heffect, rfl⟩ := exec_cases h
  rw [readPayload_eq] at heffect
  obtain ⟨hscanner, hinputs, hengine, -⟩ := commandEffect_frame i _ heffect
  exact ⟨hscanner, hinputs, hengine⟩

/-! ### A COMMIT whose arm is a model fault (R331, R342) -/

/-- Settles O23, by the unconfigured branch of arm. -/
theorem commitBeforeConfigurationFaults : Obligations.CommitBeforeConfigurationFaults := by
  intro pay s hperiod
  rw [exec_commit, arm_unconfigured hperiod, thenRecord_fault, payloadRecords_zero, ← List.append_assoc]
  rfl

theorem latchTooShort_of_lt {s : State} {least ticks : Nat} (hleast : s.params.latchLowMin = some least)
    (hgap : s.gap = some ticks) (hsoon : ticks < least) : latchTooShort s = true := by
  rw [← Bool.not_eq_false, latchTooShort_eq_false]
  exact fun hkept => absurd (hkept least ticks hleast hgap) (Nat.not_le.2 hsoon)

/-- Settles O24, by the too-soon branch of arm. -/
theorem commitTooSoonFaults : Obligations.CommitTooSoonFaults := by
  intro pay s least ticks hperiod hidle hleast hgap hsoon
  have hshort := latchTooShort_of_lt hleast hgap hsoon
  rw [exec_commit, arm_tooSoon hperiod hidle hshort, thenRecord_fault, payloadRecords_zero, ← List.append_assoc]
  rfl

/-! ### The state after power-on (R320, R321) -/

/-- Settles O32: the fields `State.powerOn` fixes, and D9's values of `defaultParams` where it takes a parameter. -/
theorem resetLeavesTheSpecifiedValues : Obligations.ResetLeavesTheSpecifiedValues := by
  simp [Obligations.ResetLeavesTheSpecifiedValues, State.reset, State.powerOn, defaultParams, black]

end Sys2Proof.Machine
end
